-- ==== Sys2Proof/Word.lean ====
section
/-! DEFINITION. The two word sizes of the machine (spec/00_scope.md R5, spec/10_state.md R12, R15). -/

namespace Sys2Proof

/-- A memory byte, an 8-bit register, an operand byte (R5, R12). -/
abbrev Byte := BitVec 8

/-- A 16-bit word: PC, YA, an effective address (R5, R15, R90). -/
abbrev Word := BitVec 16

end Sys2Proof
end

