-- ==== Sys2Proof/Config.lean ====
section
/-! DEFINITION. The six implementation parameters of spec/00_scope.md R6, as plain data. `State.params` holds
them; nothing in the model ever writes them, so a statement over every state is a statement for every value
of every parameter (log entry 2). Each default is the default of R6. -/

namespace Sys2Proof

/-- WRITEWORD_MODE: where WriteWord puts the high byte (R38, decision D2). -/
inductive WriteWordMode where
  /-- the high byte goes to `addr + 1` -/
  | split
  /-- both bytes go to `addr`, the high byte last -/
  | sameAddress
deriving DecidableEq, Repr

/-- STACK_DISCIPLINE: how Push8 moves SP and in which order PushPC pushes (R252, R254, decision D3). -/
inductive StackDiscipline where
  /-- pre-decrement push, low byte first -/
  | document
  /-- post-decrement push, high byte first -/
  | chip
deriving DecidableEq, Repr

/-- HALFCARRY16_MODE: the half-carry expression of ADDW and SUBW (R228, R229, decision D5). -/
inductive HalfCarry16Mode where
  /-- `((a ^ b ^ r) & 0x1000) != 0` -/
  | intended
  /-- `(a ^ b ^ (r & 0x1000)) != 0` -/
  | precedence
deriving DecidableEq, Repr

/-- OVERFLOW8_READING: the integer that the range test of ADC8 and SBC8 is applied to (R111, R112, decision D6). -/
inductive Overflow8Reading where
  | unsignedOperands
  | signedOperands
deriving DecidableEq, Repr

/-- DIV_ZERO (R6, R232, decision D4): a total function from YA to the pair (A, Y), written as plain data:
the pair it gives where `table` has no entry, and the entries (YA, A, Y). Every total function on 16-bit words is
one of these (`Sys2Proof.Machine.divZero_represents`; log entry 4). -/
structure DivZero where
  otherwise : Byte × Byte := (0xFF, 0xFF)
  table : List (Word × (Byte × Byte)) := []
deriving DecidableEq, Repr

/-- The parameters the model takes as arguments, with the defaults of R6. `unrecognized` is the complement of
RECOGNIZED in the 256 opcode bytes (log entry 3). -/
structure Params where
  unrecognized : List Byte := []
  writeWordMode : WriteWordMode := .split
  stackDiscipline : StackDiscipline := .document
  divZero : DivZero := {}
  halfCarry16 : HalfCarry16Mode := .intended
  overflow8 : Overflow8Reading := .unsignedOperands
deriving DecidableEq, Repr

end Sys2Proof
end

