-- ==== Sys2Proof/Machine/State.lean ====
section
/-! DEFINITION. The state of the machine as plain data (spec/10_state.md), its faults (none) and refusals, and the
state after construction, which is the machine's only reset (R32, R349). -/

namespace Sys2Proof.Machine

/-- Memory as (address, byte) pairs. The canonical form (`Memory.wf`) lists addresses at most 0xFFFF, strictly
rising, and no byte equal to what an unlisted address reads as (`Memory.unlisted`). -/
abbrev Memory := List Host.Cell

/-- The architectural state (R12 to R28), and the parameters the model takes as arguments (R6). -/
@[ext]
structure State where
  /-- A, the accumulator (R12) -/
  a : Byte
  /-- X, an index register (R12) -/
  x : Byte
  /-- Y, an index register and the high half of YA (R12, R13) -/
  y : Byte
  /-- SP, an index into page 1 (R14) -/
  sp : Byte
  /-- PSW, the flags N V P B H I Z C in bits 7 to 0 (R16) -/
  psw : Byte
  /-- PC (R15) -/
  pc : Word
  /-- the 0x10000 bytes of memory (R27, R34) -/
  mem : Memory
  /-- `last_addr`, the address of the last byte access (R28); it may be 0x10000 -/
  lastAddr : Nat
  /-- the MODEL's own field: the parameters of R6, read by the step, never written by it (log entry 2) -/
  params : Params
deriving DecidableEq, Repr

/-- Why the machine would stop with a fault. There is no constructor: "every instruction handler completes
unconditionally" (R334), so nobody raises one. That is safe: no step can end here. -/
inductive Fault where
deriving DecidableEq, Repr

/-- Why the model would refuse to go on. -/
inductive Refusal where
  /-- An instruction without a meaning, raised by an arm of `exec`. Every instruction has its meaning, so no arm
  raises it. It would be safe: the model would stop where the machine goes on. -/
  | notModelled (mnemonic : String)
deriving DecidableEq, Repr

/-- The state after construction: "constructed zeroed" (R32, R349). `lastAddr` is unspecified there; its 0 is the
model's choice (log entry 1). The parameters are the defaults of R6 (log entry 2). -/
def State.reset : State where
  a := 0
  x := 0
  y := 0
  sp := 0
  psw := 0
  pc := 0
  mem := []
  lastAddr := 0
  params := {}

end Sys2Proof.Machine
end

