-- ==== Sys2Proof/Machine/Ops.lean ====
section
/-! DEFINITION. The named operations over bytes, memory, registers, the instruction stream and the stack, and taking
the software trap (BRK) with the return from it (RETI). An operation that both answers a value and changes the state
is written as two definitions: the value read in the state before (`peek`, `peekWord`, `pop8Value`) and the state after
(`touch`, `touchWord`, `pop8`). -/

namespace Sys2Proof.Machine

/-! ## Bytes and words -/

/-- `w[7:0]` -/
def lowByte (w : Word) : Byte := w.extractLsb' 0 8

/-- `w[15:8]` -/
def highByte (w : Word) : Byte := w.extractLsb' 8 8

/-- `hi:lo`, the word `hi * 256 + lo` (R8). -/
def wordOf (hi lo : Byte) : Word := (hi ++ lo : BitVec (8 + 8))

/-- A byte as a 16-bit word. -/
def zext (b : Byte) : Word := b.setWidth 16

/-- `sext_8`, the signed value of a byte, as a 16-bit word (R8). -/
def sext (b : Byte) : Word := b.signExtend 16

/-- `b` with bit `k` set to `v`. -/
def withBit (b : Byte) (k : Nat) (v : Bool) : Byte :=
  if v then b ||| ((1 : Byte) <<< k) else b &&& ~~~((1 : Byte) <<< k)

/-! ## Memory -/

/-- What an unlisted address reads as: "zero-initialized" (R32, R34, decision D22). -/
def Memory.unlisted : Byte := 0

/-- The byte a memory list holds at an address. -/
def Memory.byteAt (m : Memory) (addr : Nat) : Byte :=
  match m with
  | [] => Memory.unlisted
  | c :: cs => if c.1 = addr then c.2 else Memory.byteAt cs addr

/-- The list without any entry for an address. -/
def Memory.clear (m : Memory) (addr : Nat) : Memory :=
  match m with
  | [] => []
  | c :: cs => if c.1 = addr then Memory.clear cs addr else c :: Memory.clear cs addr

/-- The list with an entry put before the first higher address. -/
def Memory.put (m : Memory) (addr : Nat) (v : Byte) : Memory :=
  match m with
  | [] => [(addr, v)]
  | c :: cs => if addr < c.1 then (addr, v) :: c :: cs else c :: Memory.put cs addr v

/-- The memory with byte `v` at an address, in canonical form again. -/
def Memory.store (m : Memory) (addr : Nat) (v : Byte) : Memory :=
  if v = Memory.unlisted then m.clear addr else (m.clear addr).put addr v

/-- Every address of the list lies above `addr`. -/
def Memory.above (addr : Nat) (m : Memory) : Bool := m.all (fun c => addr < c.1)

/-- The canonical form: addresses strictly rising and inside the 64 KiB (R34), no byte listed that an unlisted
address reads as. -/
def Memory.wf (m : Memory) : Bool :=
  match m with
  | [] => true
  | c :: cs => c.1 ≤ 0xFFFF && c.2 != Memory.unlisted && Memory.above c.1 cs && Memory.wf cs

/-- The value of `MemRead(addr, 1)`: the byte, or 0 above 0xFFFF (R35). -/
def State.peek (s : State) (addr : Nat) : Byte := if addr ≤ 0xFFFF then s.mem.byteAt addr else 0

/-- The state after `MemRead(addr, 1)`: `last_addr` is `addr` (R28, R35). -/
def State.touch (s : State) (addr : Nat) : State := { s with lastAddr := addr }

/-- `MemWrite(addr, 1, v)`; nothing is stored above 0xFFFF (R28, R36). -/
def State.memWrite (s : State) (addr : Nat) (v : Byte) : State :=
  { s with mem := if addr ≤ 0xFFFF then s.mem.store addr v else s.mem, lastAddr := addr }

/-- The value of `ReadWord(addr)`: low byte at `addr`, high byte at `addr + 1`, not reduced modulo 2^16 (R37). -/
def State.peekWord (s : State) (addr : Nat) : Word := wordOf (s.peek (addr + 1)) (s.peek addr)

/-- The state after `ReadWord(addr)`: two byte reads, the low one first (R37). -/
def State.touchWord (s : State) (addr : Nat) : State := (s.touch addr).touch (addr + 1)

/-- Where the high byte of `WriteWord(addr, w)` goes (R38). -/
def State.highByteAddr (s : State) (addr : Nat) : Nat :=
  match s.params.writeWordMode with
  | .split => addr + 1
  | .sameAddress => addr

/-- `WriteWord(addr, w)`: the low byte at `addr`, then the high byte (R38). -/
def State.writeWord (s : State) (addr : Nat) (w : Word) : State :=
  (s.memWrite addr (lowByte w)).memWrite (s.highByteAddr addr) (highByte w)

/-! ## Registers and flags -/

/-- The three general registers (R12). -/
inductive Reg where
  | a
  | x
  | y
deriving DecidableEq, Repr

/-- A general register's value. -/
def State.reg (s : State) (r : Reg) : Byte :=
  match r with
  | .a => s.a
  | .x => s.x
  | .y => s.y

/-- A write of a general register. -/
def State.setReg (s : State) (r : Reg) (v : Byte) : State :=
  match r with
  | .a => { s with a := v }
  | .x => { s with x := v }
  | .y => { s with y := v }

/-- YA, the word `Y:A` (R13). -/
def State.ya (s : State) : Word := wordOf s.y s.a

/-- A write of YA: Y takes `w[15:8]`, A takes `w[7:0]` (R13). -/
def State.setYA (s : State) (w : Word) : State := { s with y := highByte w, a := lowByte w }

/-- The flags of PSW (R16). -/
inductive Flag where
  | c
  | z
  | i
  | h
  | b
  | p
  | v
  | n
deriving DecidableEq, Repr

/-- The flag's bit number in PSW (R16). -/
def Flag.bit (f : Flag) : Nat :=
  match f with
  | .c => 0
  | .z => 1
  | .i => 2
  | .h => 3
  | .b => 4
  | .p => 5
  | .v => 6
  | .n => 7

/-- A flag's value. -/
def State.flag (s : State) (f : Flag) : Bool := s.psw.getLsbD f.bit

/-- A write of one flag. -/
def State.setFlag (s : State) (f : Flag) (v : Bool) : State := { s with psw := withBit s.psw f.bit v }

/-! ## The instruction stream -/

/-- The state after `Fetch8()`: the byte at PC was read and PC advanced, modulo 2^16 (R87). -/
def State.fetch8 (s : State) : State := { s with pc := s.pc + 1, lastAddr := s.pc.toNat }

/-- The state after `Fetch16()`: two `Fetch8`, so that PC wraps between them (R88). -/
def State.fetch16 (s : State) : State := s.fetch8.fetch8

/-- The opcode byte has a handler: it is in RECOGNIZED (R6, R81). -/
def recognizes (p : Params) (op : Byte) : Bool := !p.unrecognized.contains op

/-! ## The stack -/

/-- The address SP designates, in page 1 whatever PSW.P is (R14). -/
def stackAddr (sp : Byte) : Nat := 0x0100 + sp.toNat

/-- `Push8(v)` (R252). -/
def State.push8 (s : State) (v : Byte) : State :=
  match s.params.stackDiscipline with
  | .document => { s with sp := s.sp - 1 }.memWrite (stackAddr (s.sp - 1)) v
  | .chip => { s.memWrite (stackAddr s.sp) v with sp := s.sp - 1 }

/-- The value of `Pop8()` (R253). -/
def State.pop8Value (s : State) : Byte := s.peek (stackAddr (s.sp + 1))

/-- The state after `Pop8()` (R253). -/
def State.pop8 (s : State) : State := { s with sp := s.sp + 1 }.touch (stackAddr (s.sp + 1))

/-- `PushPC()` (R254). -/
def State.pushPC (s : State) : State :=
  match s.params.stackDiscipline with
  | .document => (s.push8 (lowByte s.pc)).push8 (highByte s.pc)
  | .chip => (s.push8 (highByte s.pc)).push8 (lowByte s.pc)

/-- `PopPC()`: low byte first, high byte second (R255). -/
def State.popPC (s : State) : State :=
  { s.pop8.pop8 with pc := wordOf s.pop8.pop8Value s.pop8Value }

/-- `PC <- ReadWord(addr)`: a jump through a vector. -/
def State.jumpVector (s : State) (addr : Nat) : State := { s.touchWord addr with pc := s.peekWord addr }

/-! ## The software trap and its return -/

/-- The BRK vector (R5, R259). -/
def brkVector : Nat := 0xFFDE

/-- Taking the software trap (R259, R338): the return address and the old PSW are pushed, B is set and I cleared, and
PC is loaded from the vector at 0xFFDE. -/
def State.takeTrap (s : State) : State :=
  (((s.pushPC.push8 s.psw).setFlag .b true).setFlag .i false).jumpVector brkVector

/-- The return from it (R261, R339): all of PSW is popped, then PC. -/
def State.returnFromTrap (s : State) : State :=
  { s.pop8 with psw := s.pop8Value }.popPC

end Sys2Proof.Machine
end

