-- ==== Sys2Proof/Machine/Flags.lean ====
section
/-! DEFINITION. Every flag computation of the spec: the NZ helpers (R109, R223), the 8-bit arithmetic helpers ADC8, SBC8
and CMP8 (R111 to R113), the bitwise operations (R110), the shifts (R192), INC and DEC (R193), the 16-bit arithmetic
(R228 to R230), DIV (R232) and the decimal adjustments (R233, R234). Sums and differences are computed exactly, on
integers, and narrowed at the end. -/

namespace Sys2Proof.Machine

/-- `SetNZ8(v)` (R109). -/
def State.setNZ8 (s : State) (v : Byte) : State := (s.setFlag .z (v == 0)).setFlag .n (v.getLsbD 7)

/-- `SetNZ16(w)` (R223). -/
def State.setNZ16 (s : State) (w : Word) : State := (s.setFlag .z (w == 0)).setFlag .n (w.getLsbD 15)

/-- The range test of ADC8, SBC8 and CMP8: below -127 or above 127 (R111, R112, R113). -/
def outOfRange (r : Int) : Bool := r < -127 || 127 < r

/-- `((v1 ^ v2 ^ r) & 0x10) != 0` (R111, R112). -/
def halfCarry8 (v1 v2 r : Byte) : Bool := ((v1 ^^^ v2 ^^^ r) &&& 0x10) != 0

/-! ## ADC8 -/

/-- The full sum `S = v1 + v2 + c` (R111). -/
def adcSum (c : Bool) (v1 v2 : Byte) : Nat := v1.toNat + v2.toNat + c.toNat

/-- The integer `SV` the range test of ADC8 applies to (R111). -/
def adcRangeValue (reading : Overflow8Reading) (c : Bool) (v1 v2 : Byte) : Int :=
  match reading with
  | .unsignedOperands => adcSum c v1 v2
  | .signedOperands => v1.toInt + v2.toInt + c.toNat

/-- The byte ADC8 returns (R111). -/
def adcResult (c : Bool) (v1 v2 : Byte) : Byte := BitVec.ofNat 8 (adcSum c v1 v2)

/-- The flag writes of ADC8 (R111). -/
def State.adcFlags (s : State) (v1 v2 : Byte) : State :=
  (((s.setFlag .c (0xFF < adcSum (s.flag .c) v1 v2)).setFlag .h
    (halfCarry8 v1 v2 (adcResult (s.flag .c) v1 v2))).setFlag .v
    (outOfRange (adcRangeValue s.params.overflow8 (s.flag .c) v1 v2))).setNZ8 (adcResult (s.flag .c) v1 v2)

/-! ## SBC8 -/

/-- `1 - c`, the term SBC8 adds (R112). -/
def borrowTerm (c : Bool) : Int := 1 - (c.toNat : Int)

/-- The difference `R = v1 - v2 + (1 - c)`, as the document writes it (R112). -/
def sbcDiff (c : Bool) (v1 v2 : Byte) : Int := (v1.toNat : Int) - v2.toNat + borrowTerm c

/-- The integer `RV` the range test of SBC8 applies to (R112). -/
def sbcRangeValue (reading : Overflow8Reading) (c : Bool) (v1 v2 : Byte) : Int :=
  match reading with
  | .unsignedOperands => sbcDiff c v1 v2
  | .signedOperands => v1.toInt - v2.toInt + borrowTerm c

/-- `R16 = R mod 2^16` (R112). -/
def sbcWord (c : Bool) (v1 v2 : Byte) : Word := BitVec.ofInt 16 (sbcDiff c v1 v2)

/-- The byte SBC8 returns (R112). -/
def sbcResult (c : Bool) (v1 v2 : Byte) : Byte := lowByte (sbcWord c v1 v2)

/-- The flag writes of SBC8 (R112). -/
def State.sbcFlags (s : State) (v1 v2 : Byte) : State :=
  (((s.setFlag .c (highByte (sbcWord (s.flag .c) v1 v2) == 0)).setFlag .h
    (halfCarry8 v1 v2 (sbcResult (s.flag .c) v1 v2))).setFlag .v
    (outOfRange (sbcRangeValue s.params.overflow8 (s.flag .c) v1 v2))).setNZ8 (sbcResult (s.flag .c) v1 v2)

/-! ## CMP8 -/

/-- `R = v1 - v2` (R113). -/
def cmpDiff (v1 v2 : Byte) : Int := (v1.toNat : Int) - v2.toNat

/-- The flag writes of CMP8; H is not written (R113). -/
def State.cmpFlags (s : State) (v1 v2 : Byte) : State :=
  ((s.setFlag .c (0 ≤ cmpDiff v1 v2)).setFlag .v (outOfRange (cmpDiff v1 v2))).setNZ8
    (lowByte (BitVec.ofInt 16 (cmpDiff v1 v2)))

/-! ## The 8-bit operations that write their result -/

/-- OR, AND, EOR (R110), ADC (R111) and SBC (R112). -/
inductive Alu where
  | or
  | and
  | eor
  | adc
  | sbc
deriving DecidableEq, Repr

/-- The operation's result on `v1` (the destination's old value) and `v2`, in a state whose C is the carry-in. -/
def State.aluResult (s : State) (op : Alu) (v1 v2 : Byte) : Byte :=
  match op with
  | .or => v1 ||| v2
  | .and => v1 &&& v2
  | .eor => v1 ^^^ v2
  | .adc => adcResult (s.flag .c) v1 v2
  | .sbc => sbcResult (s.flag .c) v1 v2

/-- The operation's flag writes. -/
def State.aluFlags (s : State) (op : Alu) (v1 v2 : Byte) : State :=
  match op with
  | .or => s.setNZ8 (v1 ||| v2)
  | .and => s.setNZ8 (v1 &&& v2)
  | .eor => s.setNZ8 (v1 ^^^ v2)
  | .adc => s.adcFlags v1 v2
  | .sbc => s.sbcFlags v1 v2

/-! ## Shifts, rotates, INC, DEC -/

/-- The operations that read, modify and write one byte (R192, R193). -/
inductive Rmw where
  | asl
  | lsr
  | rol
  | ror
  | inc
  | dec
deriving DecidableEq, Repr

/-- The operation's result, in a state whose C is the bit a rotate shifts in (R192, R193). -/
def State.rmwResult (s : State) (op : Rmw) (v : Byte) : Byte :=
  match op with
  | .asl => v <<< 1
  | .lsr => v >>> 1
  | .rol => withBit (v <<< 1) 0 (s.flag .c)
  | .ror => withBit (v >>> 1) 7 (s.flag .c)
  | .inc => v + 1
  | .dec => v - 1

/-- The carry a shift or rotate writes: the bit shifted out (R192). INC and DEC write none (R193). -/
def State.rmwCarry (s : State) (op : Rmw) (v : Byte) : State :=
  match op with
  | .asl => s.setFlag .c (v.getLsbD 7)
  | .lsr => s.setFlag .c (v.getLsbD 0)
  | .rol => s.setFlag .c (v.getLsbD 7)
  | .ror => s.setFlag .c (v.getLsbD 0)
  | .inc => s
  | .dec => s

/-- The operation's flag writes: the carry, then N and Z from the result (R192, R193). -/
def State.rmwFlags (s : State) (op : Rmw) (v : Byte) : State :=
  (s.rmwCarry op v).setNZ8 (s.rmwResult op v)

/-! ## 16-bit arithmetic -/

/-- The half-carry of ADDW and SUBW on the 17-bit result `r` (R228, R229, decision D5). -/
def halfCarry16 (mode : HalfCarry16Mode) (a b : Word) (r : BitVec 17) : Bool :=
  match mode with
  | .intended => ((a.setWidth 17 ^^^ b.setWidth 17 ^^^ r) &&& 0x1000) != 0
  | .precedence => (a.setWidth 17 ^^^ b.setWidth 17 ^^^ (r &&& 0x1000)) != 0

/-- `r = a + b`, 17 bits; C is not added (R228). -/
def addwResult (a b : Word) : BitVec 17 := BitVec.ofNat 17 (a.toNat + b.toNat)

/-- `(~(a ^ b)) & (a ^ r) & 0x8000` (R228). -/
def addwOverflow (a b : Word) : Bool :=
  (~~~(a ^^^ b) &&& (a ^^^ (addwResult a b).setWidth 16) &&& 0x8000) != 0

/-- The flag writes of ADDW (R228). -/
def State.addwFlags (s : State) (a b : Word) : State :=
  (((s.setFlag .c (0xFFFF < a.toNat + b.toNat)).setFlag .h
    (halfCarry16 s.params.halfCarry16 a b (addwResult a b))).setFlag .v (addwOverflow a b)).setNZ16
    ((addwResult a b).setWidth 16)

/-- `r = a - b`, an integer; C is not used (R229, R230). -/
def subwDiff (a b : Word) : Int := (a.toNat : Int) - b.toNat

/-- `r17 = r mod 2^17` (R229). -/
def subwResult (a b : Word) : BitVec 17 := BitVec.ofInt 17 (subwDiff a b)

/-- `(a ^ b) & (a ^ r17) & 0x8000` (R229). -/
def subwOverflow (a b : Word) : Bool :=
  ((a ^^^ b) &&& (a ^^^ (subwResult a b).setWidth 16) &&& 0x8000) != 0

/-- The flag writes of SUBW (R229). -/
def State.subwFlags (s : State) (a b : Word) : State :=
  (((s.setFlag .c (0 ≤ subwDiff a b)).setFlag .h
    (halfCarry16 s.params.halfCarry16 a b (subwResult a b))).setFlag .v (subwOverflow a b)).setNZ16
    ((subwResult a b).setWidth 16)

/-- The flag writes of CMPW: C, N and Z only (R230). -/
def State.cmpwFlags (s : State) (a b : Word) : State :=
  (s.setFlag .c (0 ≤ subwDiff a b)).setNZ16 (BitVec.ofInt 16 (subwDiff a b))

/-! ## DIV -/

/-- DIV_ZERO applied to YA (R6): the pair (A, Y). -/
def divZeroResult (d : DivZero) (ya : Word) : Byte × Byte := (d.table.lookup ya).getD d.otherwise

/-- The pair (A, Y) DIV writes: quotient truncated to 8 bits and remainder, or DIV_ZERO (R232). -/
def divResult (d : DivZero) (ya : Word) (x : Byte) : Byte × Byte :=
  if x = 0 then divZeroResult d ya
  else (BitVec.ofNat 8 (ya.toNat / x.toNat), BitVec.ofNat 8 (ya.toNat % x.toNat))

/-- `(Y & 0x0F) >= (X & 0x0F)` (R232). -/
def divHalfCarry (y x : Byte) : Bool := (x &&& 0x0F).toNat ≤ (y &&& 0x0F).toNat

/-! ## Decimal adjustment -/

/-- `v`'s low nibble is above 9 (R233, R234). -/
def lowNibbleAbove9 (v : Byte) : Bool := 0x09 < (v &&& 0x0F).toNat

/-- The first test of DAA, before which C and A are the old ones (R233). -/
def daaHigh (c : Bool) (a : Byte) : Bool := c || 0x99 < a.toNat

/-- A after the first step of DAA (R233). -/
def daaStep (c : Bool) (a : Byte) : Byte := if daaHigh c a then a + 0x60 else a

/-- The byte DAA leaves in A (R233). -/
def daaResult (c h : Bool) (a : Byte) : Byte :=
  if h || lowNibbleAbove9 (daaStep c a) then daaStep c a + 0x06 else daaStep c a

/-- The first test of DAS (R234). -/
def dasHigh (c : Bool) (a : Byte) : Bool := !c || 0x99 < a.toNat

/-- A after the first step of DAS (R234). -/
def dasStep (c : Bool) (a : Byte) : Byte := if dasHigh c a then a - 0x60 else a

/-- The byte DAS leaves in A (R234). -/
def dasResult (c h : Bool) (a : Byte) : Byte :=
  if !h || lowNibbleAbove9 (dasStep c a) then dasStep c a - 0x06 else dasStep c a

end Sys2Proof.Machine
end

