-- ==== Sys2Proof/Machine/Operands.lean ====
section
/-! DEFINITION. The operand forms of spec/40_addressing.md: effective addresses (R89 to R107), what forming one does to
the state (operand bytes fetched, pointer words read), and the operands that are read or written through them. -/

namespace Sys2Proof.Machine

/-- `DP(b)`, the direct-page address of an offset (R89). -/
def State.dp (s : State) (b : Byte) : Word := if s.flag .p then 0x0100 + zext b else zext b

/-- The addressing modes that designate one byte of memory (R92 to R102, but for the auto-increment of R94). -/
inductive Mode where
  /-- `(X)` (R92) -/
  | xInd
  /-- `(Y)` (R93) -/
  | yInd
  /-- `dp` (R95) -/
  | dp (d : Byte)
  /-- `dp+X` (R96) -/
  | dpX (d : Byte)
  /-- `dp+Y` (R97) -/
  | dpY (d : Byte)
  /-- `!abs` (R98) -/
  | abs (addr : Word)
  /-- `!abs+X` (R99) -/
  | absX (addr : Word)
  /-- `!abs+Y` (R100) -/
  | absY (addr : Word)
  /-- `[dp+X]` (R101) -/
  | indX (d : Byte)
  /-- `[dp]+Y` (R102) -/
  | indY (d : Byte)
deriving DecidableEq, Repr

/-- The effective address (R92 to R102). Sums are 16-bit words (R90). -/
def State.ea (s : State) (m : Mode) : Word :=
  match m with
  | .xInd => s.dp s.x
  | .yInd => s.dp s.y
  | .dp d => s.dp d
  | .dpX d => s.dp d + zext s.x
  | .dpY d => s.dp d + zext s.y
  | .abs addr => addr
  | .absX addr => addr + zext s.x
  | .absY addr => addr + zext s.y
  | .indX d => s.peekWord (s.dp d + zext s.x).toNat
  | .indY d => s.peekWord (s.dp d).toNat + zext s.y

/-- The state after the effective address is formed: the operand bytes are fetched and a pointer word is read. -/
def State.enter (s : State) (m : Mode) : State :=
  match m with
  | .xInd => s
  | .yInd => s
  | .dp _ => s.fetch8
  | .dpX _ => s.fetch8
  | .dpY _ => s.fetch8
  | .abs _ => s.fetch16
  | .absX _ => s.fetch16
  | .absY _ => s.fetch16
  | .indX d => s.fetch8.touchWord (s.dp d + zext s.x).toNat
  | .indY d => s.fetch8.touchWord (s.dp d).toNat

/-- The byte a mode designates. -/
def State.modeValue (s : State) (m : Mode) : Byte := s.peek (s.ea m).toNat

/-- The state after a mode's byte is read. -/
def State.modeRead (s : State) (m : Mode) : State := (s.enter m).touch (s.ea m).toNat

/-- A source operand: an immediate byte (R91) or a byte of memory. -/
inductive Source where
  | imm (v : Byte)
  | mem (m : Mode)
deriving DecidableEq, Repr

/-- The source operand's value. -/
def State.sourceValue (s : State) (src : Source) : Byte :=
  match src with
  | .imm v => v
  | .mem m => s.modeValue m

/-- The state after the source operand is read. -/
def State.sourceRead (s : State) (src : Source) : State :=
  match src with
  | .imm _ => s.fetch8
  | .mem m => s.modeRead m

/-- The address of a mem.bit operand, 0x0000 to 0x1FFF; PSW.P plays no part (R104). -/
def memBitEa (addr : BitVec 13) : Word := addr.setWidth 16

/-- A taken or untaken branch: the displacement byte is consumed either way, and the target counts from the PC after
it (R103). -/
def State.branchIf (s : State) (taken : Bool) (rr : Byte) : State :=
  if taken then { s.fetch8 with pc := s.fetch8.pc + sext rr } else s.fetch8

end Sys2Proof.Machine
end

