-- ==== Sys2Proof/Machine/Forms.lean ====
section
/-! DEFINITION. The shared operations that the instructions of a family are one line over. Each follows the order of the
pseudocode lines of its rules: source operand before destination operand, read before write (spec/20_memory.md R45,
decision D23). -/

namespace Sys2Proof.Machine

/-- How a meaning ends: every instruction completes (R86, R334). -/
abbrev Result := Host.Outcome State Fault Refusal

/-! ## 8-bit arithmetic and logic (R110 to R191) -/

/-- `A <- op(A, source)`, with the operation's flags. -/
def State.aluA (s : State) (op : Alu) (src : Source) : State :=
  ((s.sourceRead src).aluFlags op s.a (s.sourceValue src)).setReg .a (s.aluResult op s.a (s.sourceValue src))

/-- `M[dst] <- op(M[dst], source)`: the source is read, then the destination, then the result is written. -/
def State.aluMem (s : State) (op : Alu) (src : Source) (dst : Mode) : State :=
  ((((s.sourceRead src).modeRead dst).aluFlags op (s.modeValue dst) (s.sourceValue src)).memWrite (s.ea dst).toNat
    (s.aluResult op (s.modeValue dst) (s.sourceValue src)))

/-- `CMP8(register, source)`: only flags change. -/
def State.cmpReg (s : State) (r : Reg) (src : Source) : State :=
  (s.sourceRead src).cmpFlags (s.reg r) (s.sourceValue src)

/-- `CMP8(M[dst], source)`: the source is read, then the destination; nothing is written but flags. -/
def State.cmpMem (s : State) (src : Source) (dst : Mode) : State :=
  ((s.sourceRead src).modeRead dst).cmpFlags (s.modeValue dst) (s.sourceValue src)

/-! ## Shifts, rotates, INC, DEC (R192 to R222) -/

/-- The operation on a byte of memory: read, flags, write back. -/
def State.rmwMem (s : State) (op : Rmw) (m : Mode) : State :=
  ((s.modeRead m).rmwFlags op (s.modeValue m)).memWrite (s.ea m).toNat (s.rmwResult op (s.modeValue m))

/-- The operation on a register. -/
def State.rmwReg (s : State) (op : Rmw) (r : Reg) : State :=
  (s.rmwFlags op (s.reg r)).setReg r (s.rmwResult op (s.reg r))

/-! ## MOV (R293 to R333) -/

/-- A register takes a value and N, Z follow it. -/
def State.loadValue (s : State) (r : Reg) (v : Byte) : State := (s.setReg r v).setNZ8 v

/-- `r <- source; SetNZ8(r)`. -/
def State.load (s : State) (r : Reg) (src : Source) : State := (s.sourceRead src).loadValue r (s.sourceValue src)

/-- `M[ea] <- r`; no flag, and the destination is not read. -/
def State.store (s : State) (r : Reg) (m : Mode) : State := (s.enter m).memWrite (s.ea m).toNat (s.reg r)

/-- `M[dst] <- source`; no flag, and the destination is not read. -/
def State.moveMem (s : State) (src : Source) (dst : Mode) : State :=
  ((s.sourceRead src).enter dst).memWrite (s.ea dst).toNat (s.sourceValue src)

/-- `X <- (X + 1) mod 2^8`, the auto-increment of `(X)+` (R94). -/
def State.incX (s : State) : State := { s with x := s.x + 1 }

/-! ## 16-bit operations on a direct-page word (R224 to R230) -/

/-- The word at `DP(d)`. -/
def State.dpWord (s : State) (d : Byte) : Word := s.peekWord (s.dp d).toNat

/-- The state after the operand byte is fetched and the word at `DP(d)` is read. -/
def State.dpWordRead (s : State) (d : Byte) : State := s.fetch8.touchWord (s.dp d).toNat

/-- The word at `DP(d)` becomes `w`, and N, Z follow it (INCW, DECW). -/
def State.rmwWord (s : State) (d : Byte) (w : Word) : State :=
  ((s.dpWordRead d).writeWord (s.dp d).toNat w).setNZ16 w

/-! ## Bits (R270 to R281) -/

/-- The byte at a direct-page address becomes a function of itself; no flag (SET1, CLR1). -/
def State.dpBitWrite (s : State) (bit : Nat) (d : Byte) (v : Bool) : State :=
  (s.modeRead (.dp d)).memWrite (s.dp d).toNat (withBit (s.modeValue (.dp d)) bit v)

/-- The byte of a mem.bit operand (R104). -/
def State.memBitByte (s : State) (addr : BitVec 13) : Byte := s.peek (memBitEa addr).toNat

/-- The bit of a mem.bit operand (R104). -/
def State.memBit (s : State) (bit : Nat) (addr : BitVec 13) : Bool := (s.memBitByte addr).getLsbD bit

/-- The state after a mem.bit operand is fetched and its byte read. -/
def State.memBitRead (s : State) (addr : BitVec 13) : State := s.fetch16.touch (memBitEa addr).toNat

/-- `C <- v` after a mem.bit operand is read; only C is written. -/
def State.memBitToC (s : State) (addr : BitVec 13) (v : Bool) : State := (s.memBitRead addr).setFlag .c v

/-- The mem.bit operand's bit becomes `v`; no flag. -/
def State.memBitWrite (s : State) (bit : Nat) (addr : BitVec 13) (v : Bool) : State :=
  (s.memBitRead addr).memWrite (memBitEa addr).toNat (withBit (s.memBitByte addr) bit v)

/-- TSET1 and TCLR1: N and Z from `A - v`, then the byte becomes `w` (R272, R273). -/
def State.testWrite (s : State) (addr : Word) (w : Byte) : State :=
  ((s.modeRead (.abs addr)).setNZ8 (s.a - s.modeValue (.abs addr))).memWrite addr.toNat w

/-! ## Jumps and calls (R250, R251, R256 to R258) -/

/-- `PC <- target`. -/
def State.jump (s : State) (target : Word) : State := { s with pc := target }

/-- `PushPC(); PC <- target`. -/
def State.callTo (s : State) (target : Word) : State := s.pushPC.jump target

end Sys2Proof.Machine
end

