-- ==== Sys2Proof/Machine/Arith.lean ====
section
/-! DEFINITION. CMP, ADC, SBC in all their forms (spec/41_alu8_arith.md R150 to R191).
Each meaning runs from the point after the opcode fetch (R86). -/

namespace Sys2Proof.Machine

/-- `CMP A, #imm` (R150) -/
def execCmpAImm (ii : Byte) (s : State) : Result := .next (s.cmpReg .a (.imm ii))

/-- `CMP A, (X)` (R151) -/
def execCmpAXInd (s : State) : Result := .next (s.cmpReg .a (.mem .xInd))

/-- `CMP A, dp` (R152) -/
def execCmpADp (dd : Byte) (s : State) : Result := .next (s.cmpReg .a (.mem (.dp dd)))

/-- `CMP A, dp+X` (R153) -/
def execCmpADpX (dd : Byte) (s : State) : Result := .next (s.cmpReg .a (.mem (.dpX dd)))

/-- `CMP A, !abs` (R154) -/
def execCmpAAbs (addr : Word) (s : State) : Result := .next (s.cmpReg .a (.mem (.abs addr)))

/-- `CMP A, !abs+X` (R155) -/
def execCmpAAbsX (addr : Word) (s : State) : Result := .next (s.cmpReg .a (.mem (.absX addr)))

/-- `CMP A, !abs+Y` (R156) -/
def execCmpAAbsY (addr : Word) (s : State) : Result := .next (s.cmpReg .a (.mem (.absY addr)))

/-- `CMP A, [dp+X]` (R157) -/
def execCmpAIndX (dd : Byte) (s : State) : Result := .next (s.cmpReg .a (.mem (.indX dd)))

/-- `CMP A, [dp]+Y` (R158) -/
def execCmpAIndY (dd : Byte) (s : State) : Result := .next (s.cmpReg .a (.mem (.indY dd)))

/-- `CMP (X), (Y)` (R159) -/
def execCmpXY (s : State) : Result := .next (s.cmpMem (.mem .yInd) .xInd)

/-- `CMP dp, dp` (R160) -/
def execCmpDpDp (ss : Byte) (dd : Byte) (s : State) : Result := .next (s.cmpMem (.mem (.dp ss)) (.dp dd))

/-- `CMP dp, #imm` (R161) -/
def execCmpDpImm (ii : Byte) (dd : Byte) (s : State) : Result := .next (s.cmpMem (.imm ii) (.dp dd))

/-- `ADC A, #imm` (R162) -/
def execAdcAImm (ii : Byte) (s : State) : Result := .next (s.aluA .adc (.imm ii))

/-- `ADC A, (X)` (R163) -/
def execAdcAXInd (s : State) : Result := .next (s.aluA .adc (.mem .xInd))

/-- `ADC A, dp` (R164) -/
def execAdcADp (dd : Byte) (s : State) : Result := .next (s.aluA .adc (.mem (.dp dd)))

/-- `ADC A, dp+X` (R165) -/
def execAdcADpX (dd : Byte) (s : State) : Result := .next (s.aluA .adc (.mem (.dpX dd)))

/-- `ADC A, !abs` (R166) -/
def execAdcAAbs (addr : Word) (s : State) : Result := .next (s.aluA .adc (.mem (.abs addr)))

/-- `ADC A, !abs+X` (R167) -/
def execAdcAAbsX (addr : Word) (s : State) : Result := .next (s.aluA .adc (.mem (.absX addr)))

/-- `ADC A, !abs+Y` (R168) -/
def execAdcAAbsY (addr : Word) (s : State) : Result := .next (s.aluA .adc (.mem (.absY addr)))

/-- `ADC A, [dp+X]` (R169) -/
def execAdcAIndX (dd : Byte) (s : State) : Result := .next (s.aluA .adc (.mem (.indX dd)))

/-- `ADC A, [dp]+Y` (R170) -/
def execAdcAIndY (dd : Byte) (s : State) : Result := .next (s.aluA .adc (.mem (.indY dd)))

/-- `ADC (X), (Y)` (R171) -/
def execAdcXY (s : State) : Result := .next (s.aluMem .adc (.mem .yInd) .xInd)

/-- `ADC dp, dp` (R172) -/
def execAdcDpDp (ss : Byte) (dd : Byte) (s : State) : Result := .next (s.aluMem .adc (.mem (.dp ss)) (.dp dd))

/-- `ADC dp, #imm` (R173) -/
def execAdcDpImm (ii : Byte) (dd : Byte) (s : State) : Result := .next (s.aluMem .adc (.imm ii) (.dp dd))

/-- `SBC A, #imm` (R174) -/
def execSbcAImm (ii : Byte) (s : State) : Result := .next (s.aluA .sbc (.imm ii))

/-- `SBC A, (X)` (R175) -/
def execSbcAXInd (s : State) : Result := .next (s.aluA .sbc (.mem .xInd))

/-- `SBC A, dp` (R176) -/
def execSbcADp (dd : Byte) (s : State) : Result := .next (s.aluA .sbc (.mem (.dp dd)))

/-- `SBC A, dp+X` (R177) -/
def execSbcADpX (dd : Byte) (s : State) : Result := .next (s.aluA .sbc (.mem (.dpX dd)))

/-- `SBC A, !abs` (R178) -/
def execSbcAAbs (addr : Word) (s : State) : Result := .next (s.aluA .sbc (.mem (.abs addr)))

/-- `SBC A, !abs+X` (R179) -/
def execSbcAAbsX (addr : Word) (s : State) : Result := .next (s.aluA .sbc (.mem (.absX addr)))

/-- `SBC A, !abs+Y` (R180) -/
def execSbcAAbsY (addr : Word) (s : State) : Result := .next (s.aluA .sbc (.mem (.absY addr)))

/-- `SBC A, [dp+X]` (R181) -/
def execSbcAIndX (dd : Byte) (s : State) : Result := .next (s.aluA .sbc (.mem (.indX dd)))

/-- `SBC A, [dp]+Y` (R182) -/
def execSbcAIndY (dd : Byte) (s : State) : Result := .next (s.aluA .sbc (.mem (.indY dd)))

/-- `SBC (X), (Y)` (R183) -/
def execSbcXY (s : State) : Result := .next (s.aluMem .sbc (.mem .yInd) .xInd)

/-- `SBC dp, dp` (R184) -/
def execSbcDpDp (ss : Byte) (dd : Byte) (s : State) : Result := .next (s.aluMem .sbc (.mem (.dp ss)) (.dp dd))

/-- `SBC dp, #imm` (R185) -/
def execSbcDpImm (ii : Byte) (dd : Byte) (s : State) : Result := .next (s.aluMem .sbc (.imm ii) (.dp dd))

/-- `CMP X, #imm` (R186) -/
def execCmpXImm (ii : Byte) (s : State) : Result := .next (s.cmpReg .x (.imm ii))

/-- `CMP X, dp` (R187) -/
def execCmpXDp (dd : Byte) (s : State) : Result := .next (s.cmpReg .x (.mem (.dp dd)))

/-- `CMP X, !abs` (R188) -/
def execCmpXAbs (addr : Word) (s : State) : Result := .next (s.cmpReg .x (.mem (.abs addr)))

/-- `CMP Y, #imm` (R189) -/
def execCmpYImm (ii : Byte) (s : State) : Result := .next (s.cmpReg .y (.imm ii))

/-- `CMP Y, dp` (R190) -/
def execCmpYDp (dd : Byte) (s : State) : Result := .next (s.cmpReg .y (.mem (.dp dd)))

/-- `CMP Y, !abs` (R191) -/
def execCmpYAbs (addr : Word) (s : State) : Result := .next (s.cmpReg .y (.mem (.abs addr)))

end Sys2Proof.Machine
end

