-- ==== Sys2Proof/Machine/Bit.lean ====
section
/-! DEFINITION. Bit instructions (spec/46_bit_ops.md R270 to R281).
Each meaning runs from the point after the opcode fetch (R86). -/

namespace Sys2Proof.Machine

/-- `SET1 dp.bit` (R270) -/
def execSet1 (bit : Nat) (dd : Byte) (s : State) : Result := .next (s.dpBitWrite bit dd true)

/-- `CLR1 dp.bit` (R271) -/
def execClr1 (bit : Nat) (dd : Byte) (s : State) : Result := .next (s.dpBitWrite bit dd false)

/-- `TSET1 !abs` (R272) -/
def execTset1 (addr : Word) (s : State) : Result := .next (s.testWrite addr (s.modeValue (.abs addr) ||| s.a))

/-- `TCLR1 !abs` (R273) -/
def execTclr1 (addr : Word) (s : State) : Result := .next (s.testWrite addr (s.modeValue (.abs addr) &&& ~~~s.a))

/-- `AND1 C, mem.bit` (R274) -/
def execAnd1CMem (bit : Nat) (addr : BitVec 13) (s : State) : Result :=
  .next (s.memBitToC addr (s.flag .c && s.memBit bit addr))

/-- `AND1 C, /mem.bit` (R275) -/
def execAnd1CNotMem (bit : Nat) (addr : BitVec 13) (s : State) : Result :=
  .next (s.memBitToC addr (s.flag .c && !s.memBit bit addr))

/-- `OR1 C, mem.bit` (R276) -/
def execOr1CMem (bit : Nat) (addr : BitVec 13) (s : State) : Result :=
  .next (s.memBitToC addr (s.flag .c || s.memBit bit addr))

/-- `OR1 C, /mem.bit` (R277) -/
def execOr1CNotMem (bit : Nat) (addr : BitVec 13) (s : State) : Result :=
  .next (s.memBitToC addr (s.flag .c || !s.memBit bit addr))

/-- `EOR1 C, mem.bit` (R278) -/
def execEor1CMem (bit : Nat) (addr : BitVec 13) (s : State) : Result :=
  .next (s.memBitToC addr (s.flag .c ^^ s.memBit bit addr))

/-- `MOV1 C, mem.bit` (R279) -/
def execMov1CMem (bit : Nat) (addr : BitVec 13) (s : State) : Result := .next (s.memBitToC addr (s.memBit bit addr))

/-- `NOT1 mem.bit` (R280) -/
def execNot1 (bit : Nat) (addr : BitVec 13) (s : State) : Result :=
  .next (s.memBitWrite bit addr (!s.memBit bit addr))

/-- `MOV1 mem.bit, C` (R281) -/
def execMov1MemC (bit : Nat) (addr : BitVec 13) (s : State) : Result := .next (s.memBitWrite bit addr (s.flag .c))

end Sys2Proof.Machine
end

