-- ==== Sys2Proof/Machine/Branch.lean ====
section
/-! DEFINITION. Branches and jumps (spec/44_branch_jump.md R235 to R251).
Each meaning runs from the point after the opcode fetch (R86). -/

namespace Sys2Proof.Machine

/-- The decremented byte of `DBNZ dp, rel` (R248). -/
def State.dbnzValue (s : State) (dd : Byte) : Byte := s.modeValue (.dp dd) - 1

/-- The state of `DBNZ dp, rel` after the decremented byte is written and before the displacement is fetched (R248). -/
def State.dbnzWrite (s : State) (dd : Byte) : State :=
  (s.modeRead (.dp dd)).memWrite (s.dp dd).toNat (s.dbnzValue dd)

/-- The displacement `DBNZ dp, rel` uses: it is fetched after the write, so it is the decremented byte where `DP(d)` is
the address of the displacement byte (R359). -/
def State.dbnzDisplacement (s : State) (dd rr : Byte) : Byte :=
  if (s.dbnzWrite dd).pc = s.dp dd then s.dbnzValue dd else rr

/-- `DBNZ dp, rel`: no flag is written (R248). -/
def State.dbnzMem (s : State) (dd rr : Byte) : State :=
  (s.dbnzWrite dd).branchIf (s.dbnzValue dd != 0) (s.dbnzDisplacement dd rr)

/-- `BRA rel` (R235) -/
def execBra (rr : Byte) (s : State) : Result := .next (s.branchIf true rr)

/-- `BEQ rel` (R236) -/
def execBeq (rr : Byte) (s : State) : Result := .next (s.branchIf (s.flag .z) rr)

/-- `BNE rel` (R237) -/
def execBne (rr : Byte) (s : State) : Result := .next (s.branchIf (!s.flag .z) rr)

/-- `BCS rel` (R238) -/
def execBcs (rr : Byte) (s : State) : Result := .next (s.branchIf (s.flag .c) rr)

/-- `BCC rel` (R239) -/
def execBcc (rr : Byte) (s : State) : Result := .next (s.branchIf (!s.flag .c) rr)

/-- `BVS rel` (R240) -/
def execBvs (rr : Byte) (s : State) : Result := .next (s.branchIf (s.flag .v) rr)

/-- `BVC rel` (R241) -/
def execBvc (rr : Byte) (s : State) : Result := .next (s.branchIf (!s.flag .v) rr)

/-- `BMI rel` (R242) -/
def execBmi (rr : Byte) (s : State) : Result := .next (s.branchIf (s.flag .n) rr)

/-- `BPL rel` (R243) -/
def execBpl (rr : Byte) (s : State) : Result := .next (s.branchIf (!s.flag .n) rr)

/-- `BBS dp.bit, rel` (R244) -/
def execBbs (bit : Nat) (dd : Byte) (rr : Byte) (s : State) : Result :=
  .next ((s.modeRead (.dp dd)).branchIf ((s.modeValue (.dp dd)).getLsbD bit) rr)

/-- `BBC dp.bit, rel` (R245) -/
def execBbc (bit : Nat) (dd : Byte) (rr : Byte) (s : State) : Result :=
  .next ((s.modeRead (.dp dd)).branchIf (!(s.modeValue (.dp dd)).getLsbD bit) rr)

/-- `CBNE dp, rel` (R246) -/
def execCbneDp (dd : Byte) (rr : Byte) (s : State) : Result :=
  .next ((s.modeRead (.dp dd)).branchIf (s.a != s.modeValue (.dp dd)) rr)

/-- `CBNE dp+X, rel` (R247) -/
def execCbneDpX (dd : Byte) (rr : Byte) (s : State) : Result :=
  .next ((s.modeRead (.dpX dd)).branchIf (s.a != s.modeValue (.dpX dd)) rr)

/-- `DBNZ dp, rel` (R248) -/
def execDbnzDp (dd : Byte) (rr : Byte) (s : State) : Result := .next (s.dbnzMem dd rr)

/-- `DBNZ Y, rel` (R249) -/
def execDbnzY (rr : Byte) (s : State) : Result := .next ({ s with y := s.y - 1 }.branchIf (s.y - 1 != 0) rr)

/-- `JMP !abs` (R250) -/
def execJmpAbs (addr : Word) (s : State) : Result := .next (s.fetch16.jump addr)

/-- `JMP [!abs+X]` (R251) -/
def execJmpAbsXInd (addr : Word) (s : State) : Result := .next (s.fetch16.jumpVector (addr + zext s.x).toNat)

end Sys2Proof.Machine
end

