-- ==== Sys2Proof/Machine/FlagOps.lean ====
section
/-! DEFINITION. Flag instructions, EI, DI, NOP, SLEEP, STOP (spec/47_flag_misc.md R282 to R292).
Each meaning runs from the point after the opcode fetch (R86). -/

namespace Sys2Proof.Machine

/-- `CLRC` (R282) -/
def execClrc (s : State) : Result := .next (s.setFlag .c false)

/-- `SETC` (R283) -/
def execSetc (s : State) : Result := .next (s.setFlag .c true)

/-- `NOTC` (R284) -/
def execNotc (s : State) : Result := .next (s.setFlag .c (!s.flag .c))

/-- `CLRV` (R285) -/
def execClrv (s : State) : Result := .next (s.setFlag .v false)

/-- `CLRP` (R286) -/
def execClrp (s : State) : Result := .next (s.setFlag .p false)

/-- `SETP` (R287) -/
def execSetp (s : State) : Result := .next (s.setFlag .p true)

/-- `EI` (R288) -/
def execEi (s : State) : Result := .next (s.setFlag .i true)

/-- `DI` (R289) -/
def execDi (s : State) : Result := .next (s.setFlag .i false)

/-- `NOP` (R290) -/
def execNop (s : State) : Result := .next s

/-- `SLEEP` (R291) -/
def execSleep (s : State) : Result := .next s

/-- `STOP` (R292) -/
def execStop (s : State) : Result := .next s

end Sys2Proof.Machine
end

