-- ==== Sys2Proof/Machine/Logic.lean ====
section
/-! DEFINITION. OR, AND, EOR in all their forms (spec/41_alu8.md R114 to R149).
Each meaning runs from the point after the opcode fetch (R86). -/

namespace Sys2Proof.Machine

/-- `OR A, #imm` (R114) -/
def execOrAImm (ii : Byte) (s : State) : Result := .next (s.aluA .or (.imm ii))

/-- `OR A, (X)` (R115) -/
def execOrAXInd (s : State) : Result := .next (s.aluA .or (.mem .xInd))

/-- `OR A, dp` (R116) -/
def execOrADp (dd : Byte) (s : State) : Result := .next (s.aluA .or (.mem (.dp dd)))

/-- `OR A, dp+X` (R117) -/
def execOrADpX (dd : Byte) (s : State) : Result := .next (s.aluA .or (.mem (.dpX dd)))

/-- `OR A, !abs` (R118) -/
def execOrAAbs (addr : Word) (s : State) : Result := .next (s.aluA .or (.mem (.abs addr)))

/-- `OR A, !abs+X` (R119) -/
def execOrAAbsX (addr : Word) (s : State) : Result := .next (s.aluA .or (.mem (.absX addr)))

/-- `OR A, !abs+Y` (R120) -/
def execOrAAbsY (addr : Word) (s : State) : Result := .next (s.aluA .or (.mem (.absY addr)))

/-- `OR A, [dp+X]` (R121) -/
def execOrAIndX (dd : Byte) (s : State) : Result := .next (s.aluA .or (.mem (.indX dd)))

/-- `OR A, [dp]+Y` (R122) -/
def execOrAIndY (dd : Byte) (s : State) : Result := .next (s.aluA .or (.mem (.indY dd)))

/-- `OR (X), (Y)` (R123) -/
def execOrXY (s : State) : Result := .next (s.aluMem .or (.mem .yInd) .xInd)

/-- `OR dp, dp` (R124) -/
def execOrDpDp (ss : Byte) (dd : Byte) (s : State) : Result := .next (s.aluMem .or (.mem (.dp ss)) (.dp dd))

/-- `OR dp, #imm` (R125) -/
def execOrDpImm (ii : Byte) (dd : Byte) (s : State) : Result := .next (s.aluMem .or (.imm ii) (.dp dd))

/-- `AND A, #imm` (R126) -/
def execAndAImm (ii : Byte) (s : State) : Result := .next (s.aluA .and (.imm ii))

/-- `AND A, (X)` (R127) -/
def execAndAXInd (s : State) : Result := .next (s.aluA .and (.mem .xInd))

/-- `AND A, dp` (R128) -/
def execAndADp (dd : Byte) (s : State) : Result := .next (s.aluA .and (.mem (.dp dd)))

/-- `AND A, dp+X` (R129) -/
def execAndADpX (dd : Byte) (s : State) : Result := .next (s.aluA .and (.mem (.dpX dd)))

/-- `AND A, !abs` (R130) -/
def execAndAAbs (addr : Word) (s : State) : Result := .next (s.aluA .and (.mem (.abs addr)))

/-- `AND A, !abs+X` (R131) -/
def execAndAAbsX (addr : Word) (s : State) : Result := .next (s.aluA .and (.mem (.absX addr)))

/-- `AND A, !abs+Y` (R132) -/
def execAndAAbsY (addr : Word) (s : State) : Result := .next (s.aluA .and (.mem (.absY addr)))

/-- `AND A, [dp+X]` (R133) -/
def execAndAIndX (dd : Byte) (s : State) : Result := .next (s.aluA .and (.mem (.indX dd)))

/-- `AND A, [dp]+Y` (R134) -/
def execAndAIndY (dd : Byte) (s : State) : Result := .next (s.aluA .and (.mem (.indY dd)))

/-- `AND (X), (Y)` (R135) -/
def execAndXY (s : State) : Result := .next (s.aluMem .and (.mem .yInd) .xInd)

/-- `AND dp, dp` (R136) -/
def execAndDpDp (ss : Byte) (dd : Byte) (s : State) : Result := .next (s.aluMem .and (.mem (.dp ss)) (.dp dd))

/-- `AND dp, #imm` (R137) -/
def execAndDpImm (ii : Byte) (dd : Byte) (s : State) : Result := .next (s.aluMem .and (.imm ii) (.dp dd))

/-- `EOR A, #imm` (R138) -/
def execEorAImm (ii : Byte) (s : State) : Result := .next (s.aluA .eor (.imm ii))

/-- `EOR A, (X)` (R139) -/
def execEorAXInd (s : State) : Result := .next (s.aluA .eor (.mem .xInd))

/-- `EOR A, dp` (R140) -/
def execEorADp (dd : Byte) (s : State) : Result := .next (s.aluA .eor (.mem (.dp dd)))

/-- `EOR A, dp+X` (R141) -/
def execEorADpX (dd : Byte) (s : State) : Result := .next (s.aluA .eor (.mem (.dpX dd)))

/-- `EOR A, !abs` (R142) -/
def execEorAAbs (addr : Word) (s : State) : Result := .next (s.aluA .eor (.mem (.abs addr)))

/-- `EOR A, !abs+X` (R143) -/
def execEorAAbsX (addr : Word) (s : State) : Result := .next (s.aluA .eor (.mem (.absX addr)))

/-- `EOR A, !abs+Y` (R144) -/
def execEorAAbsY (addr : Word) (s : State) : Result := .next (s.aluA .eor (.mem (.absY addr)))

/-- `EOR A, [dp+X]` (R145) -/
def execEorAIndX (dd : Byte) (s : State) : Result := .next (s.aluA .eor (.mem (.indX dd)))

/-- `EOR A, [dp]+Y` (R146) -/
def execEorAIndY (dd : Byte) (s : State) : Result := .next (s.aluA .eor (.mem (.indY dd)))

/-- `EOR (X), (Y)` (R147) -/
def execEorXY (s : State) : Result := .next (s.aluMem .eor (.mem .yInd) .xInd)

/-- `EOR dp, dp` (R148) -/
def execEorDpDp (ss : Byte) (dd : Byte) (s : State) : Result := .next (s.aluMem .eor (.mem (.dp ss)) (.dp dd))

/-- `EOR dp, #imm` (R149) -/
def execEorDpImm (ii : Byte) (dd : Byte) (s : State) : Result := .next (s.aluMem .eor (.imm ii) (.dp dd))

end Sys2Proof.Machine
end

