-- ==== Sys2Proof/Machine/Mov.lean ====
section
/-! DEFINITION. MOV in all its forms (spec/48_mov.md R293 to R333).
Each meaning runs from the point after the opcode fetch (R86). -/

namespace Sys2Proof.Machine

/-- `MOV A, #imm` (R293) -/
def execMovAImm (ii : Byte) (s : State) : Result := .next (s.load .a (.imm ii))

/-- `MOV A, (X)` (R294) -/
def execMovAXInd (s : State) : Result := .next (s.load .a (.mem .xInd))

/-- `MOV A, (X)+` (R295) -/
def execMovAXInc (s : State) : Result := .next (((s.modeRead .xInd).incX).loadValue .a (s.modeValue .xInd))

/-- `MOV A, dp` (R296) -/
def execMovADp (dd : Byte) (s : State) : Result := .next (s.load .a (.mem (.dp dd)))

/-- `MOV A, dp+X` (R297) -/
def execMovADpX (dd : Byte) (s : State) : Result := .next (s.load .a (.mem (.dpX dd)))

/-- `MOV A, !abs` (R298) -/
def execMovAAbs (addr : Word) (s : State) : Result := .next (s.load .a (.mem (.abs addr)))

/-- `MOV A, !abs+X` (R299) -/
def execMovAAbsX (addr : Word) (s : State) : Result := .next (s.load .a (.mem (.absX addr)))

/-- `MOV A, !abs+Y` (R300) -/
def execMovAAbsY (addr : Word) (s : State) : Result := .next (s.load .a (.mem (.absY addr)))

/-- `MOV A, [dp+X]` (R301) -/
def execMovAIndX (dd : Byte) (s : State) : Result := .next (s.load .a (.mem (.indX dd)))

/-- `MOV A, [dp]+Y` (R302) -/
def execMovAIndY (dd : Byte) (s : State) : Result := .next (s.load .a (.mem (.indY dd)))

/-- `MOV X, #imm` (R303) -/
def execMovXImm (ii : Byte) (s : State) : Result := .next (s.load .x (.imm ii))

/-- `MOV X, dp` (R304) -/
def execMovXDp (dd : Byte) (s : State) : Result := .next (s.load .x (.mem (.dp dd)))

/-- `MOV X, dp+Y` (R305) -/
def execMovXDpY (dd : Byte) (s : State) : Result := .next (s.load .x (.mem (.dpY dd)))

/-- `MOV X, !abs` (R306) -/
def execMovXAbs (addr : Word) (s : State) : Result := .next (s.load .x (.mem (.abs addr)))

/-- `MOV Y, #imm` (R307) -/
def execMovYImm (ii : Byte) (s : State) : Result := .next (s.load .y (.imm ii))

/-- `MOV Y, dp` (R308) -/
def execMovYDp (dd : Byte) (s : State) : Result := .next (s.load .y (.mem (.dp dd)))

/-- `MOV Y, dp+X` (R309) -/
def execMovYDpX (dd : Byte) (s : State) : Result := .next (s.load .y (.mem (.dpX dd)))

/-- `MOV Y, !abs` (R310) -/
def execMovYAbs (addr : Word) (s : State) : Result := .next (s.load .y (.mem (.abs addr)))

/-- `MOV (X), A` (R311) -/
def execMovXIndA (s : State) : Result := .next (s.store .a .xInd)

/-- `MOV (X)+, A` (R312) -/
def execMovXIncA (s : State) : Result := .next ((s.store .a .xInd).incX)

/-- `MOV dp, A` (R313) -/
def execMovDpA (dd : Byte) (s : State) : Result := .next (s.store .a (.dp dd))

/-- `MOV dp+X, A` (R314) -/
def execMovDpXA (dd : Byte) (s : State) : Result := .next (s.store .a (.dpX dd))

/-- `MOV !abs, A` (R315) -/
def execMovAbsA (addr : Word) (s : State) : Result := .next (s.store .a (.abs addr))

/-- `MOV !abs+X, A` (R316) -/
def execMovAbsXA (addr : Word) (s : State) : Result := .next (s.store .a (.absX addr))

/-- `MOV !abs+Y, A` (R317) -/
def execMovAbsYA (addr : Word) (s : State) : Result := .next (s.store .a (.absY addr))

/-- `MOV [dp+X], A` (R318) -/
def execMovIndXA (dd : Byte) (s : State) : Result := .next (s.store .a (.indX dd))

/-- `MOV [dp]+Y, A` (R319) -/
def execMovIndYA (dd : Byte) (s : State) : Result := .next (s.store .a (.indY dd))

/-- `MOV dp, X` (R320) -/
def execMovDpX (dd : Byte) (s : State) : Result := .next (s.store .x (.dp dd))

/-- `MOV dp+Y, X` (R321) -/
def execMovDpYX (dd : Byte) (s : State) : Result := .next (s.store .x (.dpY dd))

/-- `MOV !abs, X` (R322) -/
def execMovAbsX (addr : Word) (s : State) : Result := .next (s.store .x (.abs addr))

/-- `MOV dp, Y` (R323) -/
def execMovDpY (dd : Byte) (s : State) : Result := .next (s.store .y (.dp dd))

/-- `MOV dp+X, Y` (R324) -/
def execMovDpXY (dd : Byte) (s : State) : Result := .next (s.store .y (.dpX dd))

/-- `MOV !abs, Y` (R325) -/
def execMovAbsY (addr : Word) (s : State) : Result := .next (s.store .y (.abs addr))

/-- `MOV A, X` (R326) -/
def execMovAX (s : State) : Result := .next (s.loadValue .a s.x)

/-- `MOV A, Y` (R327) -/
def execMovAY (s : State) : Result := .next (s.loadValue .a s.y)

/-- `MOV X, A` (R328) -/
def execMovXA (s : State) : Result := .next (s.loadValue .x s.a)

/-- `MOV Y, A` (R329) -/
def execMovYA (s : State) : Result := .next (s.loadValue .y s.a)

/-- `MOV X, SP` (R330) -/
def execMovXSp (s : State) : Result := .next (s.loadValue .x s.sp)

/-- `MOV SP, X` (R331) -/
def execMovSpX (s : State) : Result := .next ({ s with sp := s.x })

/-- `MOV dp, dp` (R332) -/
def execMovDpDp (ss : Byte) (dd : Byte) (s : State) : Result := .next (s.moveMem (.mem (.dp ss)) (.dp dd))

/-- `MOV dp, #imm` (R333) -/
def execMovDpImm (ii : Byte) (dd : Byte) (s : State) : Result := .next (s.moveMem (.imm ii) (.dp dd))

end Sys2Proof.Machine
end

