-- ==== Sys2Proof/Machine/Shift.lean ====
section
/-! DEFINITION. Shifts, rotates, INC, DEC, XCN (spec/42_shift_incdec.md R194 to R222).
Each meaning runs from the point after the opcode fetch (R86). -/

namespace Sys2Proof.Machine

/-- `ASL A` (R194) -/
def execAslA (s : State) : Result := .next (s.rmwReg .asl .a)

/-- `ASL dp` (R195) -/
def execAslDp (dd : Byte) (s : State) : Result := .next (s.rmwMem .asl (.dp dd))

/-- `ASL !abs` (R196) -/
def execAslAbs (addr : Word) (s : State) : Result := .next (s.rmwMem .asl (.abs addr))

/-- `ASL dp+X` (R197) -/
def execAslDpX (dd : Byte) (s : State) : Result := .next (s.rmwMem .asl (.dpX dd))

/-- `LSR A` (R198) -/
def execLsrA (s : State) : Result := .next (s.rmwReg .lsr .a)

/-- `LSR dp` (R199) -/
def execLsrDp (dd : Byte) (s : State) : Result := .next (s.rmwMem .lsr (.dp dd))

/-- `LSR !abs` (R200) -/
def execLsrAbs (addr : Word) (s : State) : Result := .next (s.rmwMem .lsr (.abs addr))

/-- `LSR dp+X` (R201) -/
def execLsrDpX (dd : Byte) (s : State) : Result := .next (s.rmwMem .lsr (.dpX dd))

/-- `ROL A` (R202) -/
def execRolA (s : State) : Result := .next (s.rmwReg .rol .a)

/-- `ROL dp` (R203) -/
def execRolDp (dd : Byte) (s : State) : Result := .next (s.rmwMem .rol (.dp dd))

/-- `ROL !abs` (R204) -/
def execRolAbs (addr : Word) (s : State) : Result := .next (s.rmwMem .rol (.abs addr))

/-- `ROL dp+X` (R205) -/
def execRolDpX (dd : Byte) (s : State) : Result := .next (s.rmwMem .rol (.dpX dd))

/-- `ROR A` (R206) -/
def execRorA (s : State) : Result := .next (s.rmwReg .ror .a)

/-- `ROR dp` (R207) -/
def execRorDp (dd : Byte) (s : State) : Result := .next (s.rmwMem .ror (.dp dd))

/-- `ROR !abs` (R208) -/
def execRorAbs (addr : Word) (s : State) : Result := .next (s.rmwMem .ror (.abs addr))

/-- `ROR dp+X` (R209) -/
def execRorDpX (dd : Byte) (s : State) : Result := .next (s.rmwMem .ror (.dpX dd))

/-- `INC X` (R210) -/
def execIncX (s : State) : Result := .next (s.rmwReg .inc .x)

/-- `INC A` (R211) -/
def execIncA (s : State) : Result := .next (s.rmwReg .inc .a)

/-- `INC Y` (R212) -/
def execIncY (s : State) : Result := .next (s.rmwReg .inc .y)

/-- `INC dp` (R213) -/
def execIncDp (dd : Byte) (s : State) : Result := .next (s.rmwMem .inc (.dp dd))

/-- `INC !abs` (R214) -/
def execIncAbs (addr : Word) (s : State) : Result := .next (s.rmwMem .inc (.abs addr))

/-- `INC dp+X` (R215) -/
def execIncDpX (dd : Byte) (s : State) : Result := .next (s.rmwMem .inc (.dpX dd))

/-- `DEC X` (R216) -/
def execDecX (s : State) : Result := .next (s.rmwReg .dec .x)

/-- `DEC A` (R217) -/
def execDecA (s : State) : Result := .next (s.rmwReg .dec .a)

/-- `DEC Y` (R218) -/
def execDecY (s : State) : Result := .next (s.rmwReg .dec .y)

/-- `DEC dp` (R219) -/
def execDecDp (dd : Byte) (s : State) : Result := .next (s.rmwMem .dec (.dp dd))

/-- `DEC !abs` (R220) -/
def execDecAbs (addr : Word) (s : State) : Result := .next (s.rmwMem .dec (.abs addr))

/-- `DEC dp+X` (R221) -/
def execDecDpX (dd : Byte) (s : State) : Result := .next (s.rmwMem .dec (.dpX dd))

/-- `XCN A` (R222) -/
def execXcn (s : State) : Result := .next (s.loadValue .a (s.a <<< 4 ||| s.a >>> 4))

end Sys2Proof.Machine
end

