-- ==== Sys2Proof/Machine/Stack.lean ====
section
/-! DEFINITION. Calls, BRK, returns, PUSH, POP (spec/45_call_stack.md R256 to R269).
Each meaning runs from the point after the opcode fetch (R86). -/

namespace Sys2Proof.Machine

/-- `CALL !abs` (R256) -/
def execCall (addr : Word) (s : State) : Result := .next (s.fetch16.callTo addr)

/-- `PCALL upage` (R257) -/
def execPcall (uu : Byte) (s : State) : Result := .next (s.fetch8.callTo (0xFF00 + zext uu))

/-- `TCALL n` (R258) -/
def execTcall (n : Nat) (s : State) : Result := .next (s.pushPC.jumpVector (0xFFDE - 2 * n))

/-- `BRK` (R259) -/
def execBrk (s : State) : Result := .next (s.takeTrap)

/-- `RET` (R260) -/
def execRet (s : State) : Result := .next (s.popPC)

/-- `RETI` (R261) -/
def execReti (s : State) : Result := .next (s.returnFromTrap)

/-- `PUSH A` (R262) -/
def execPushA (s : State) : Result := .next (s.push8 s.a)

/-- `PUSH X` (R263) -/
def execPushX (s : State) : Result := .next (s.push8 s.x)

/-- `PUSH Y` (R264) -/
def execPushY (s : State) : Result := .next (s.push8 s.y)

/-- `PUSH PSW` (R265) -/
def execPushPsw (s : State) : Result := .next (s.push8 s.psw)

/-- `POP A` (R266) -/
def execPopA (s : State) : Result := .next (s.pop8.setReg .a s.pop8Value)

/-- `POP X` (R267) -/
def execPopX (s : State) : Result := .next (s.pop8.setReg .x s.pop8Value)

/-- `POP Y` (R268) -/
def execPopY (s : State) : Result := .next (s.pop8.setReg .y s.pop8Value)

/-- `POP PSW` (R269) -/
def execPopPsw (s : State) : Result := .next ({ s.pop8 with psw := s.pop8Value })

end Sys2Proof.Machine
end

