-- ==== Sys2Proof/Machine/Word16.lean ====
section
/-! DEFINITION. MOVW, INCW, DECW, ADDW, SUBW, CMPW, MUL, DIV, DAA, DAS (spec/43_word_muldiv_bcd.md R224 to R234).
Each meaning runs from the point after the opcode fetch (R86). -/

namespace Sys2Proof.Machine

/-- `p = Y * A`, unsigned (R231). -/
def mulResult (y a : Byte) : Word := BitVec.ofNat 16 (y.toNat * a.toNat)

/-- The register and flag writes of DIV (R232): H and V from the values before the division, then A and Y, then N and Z
from the new A; C is unchanged. -/
def State.divYA (s : State) : State :=
  { (s.setFlag .h (divHalfCarry s.y s.x)).setFlag .v (s.ya.getLsbD 8) with
    a := (divResult s.params.divZero s.ya s.x).1
    y := (divResult s.params.divZero s.ya s.x).2 }.setNZ8 (divResult s.params.divZero s.ya s.x).1

/-- `MOVW YA, dp` (R224) -/
def execMovwYaDp (dd : Byte) (s : State) : Result :=
  .next (((s.dpWordRead dd).setYA (s.dpWord dd)).setNZ16 (s.dpWord dd))

/-- `MOVW dp, YA` (R225) -/
def execMovwDpYa (dd : Byte) (s : State) : Result := .next (s.fetch8.writeWord (s.dp dd).toNat s.ya)

/-- `INCW dp` (R226) -/
def execIncw (dd : Byte) (s : State) : Result := .next (s.rmwWord dd (s.dpWord dd + 1))

/-- `DECW dp` (R227) -/
def execDecw (dd : Byte) (s : State) : Result := .next (s.rmwWord dd (s.dpWord dd - 1))

/-- `ADDW YA, dp` (R228) -/
def execAddw (dd : Byte) (s : State) : Result :=
  .next (((s.dpWordRead dd).addwFlags s.ya (s.dpWord dd)).setYA ((addwResult s.ya (s.dpWord dd)).setWidth 16))

/-- `SUBW YA, dp` (R229) -/
def execSubw (dd : Byte) (s : State) : Result :=
  .next (((s.dpWordRead dd).subwFlags s.ya (s.dpWord dd)).setYA ((subwResult s.ya (s.dpWord dd)).setWidth 16))

/-- `CMPW YA, dp` (R230) -/
def execCmpw (dd : Byte) (s : State) : Result := .next ((s.dpWordRead dd).cmpwFlags s.ya (s.dpWord dd))

/-- `MUL YA` (R231) -/
def execMul (s : State) : Result := .next ((s.setYA (mulResult s.y s.a)).setNZ8 (highByte (mulResult s.y s.a)))

/-- `DIV YA, X` (R232) -/
def execDiv (s : State) : Result := .next (s.divYA)

/-- `DAA A` (R233) -/
def execDaa (s : State) : Result :=
  .next (((if daaHigh (s.flag .c) s.a then s.setFlag .c true else s).loadValue .a (daaResult (s.flag .c) (s.flag .h) s.a)))

/-- `DAS A` (R234) -/
def execDas (s : State) : Result :=
  .next (((if dasHigh (s.flag .c) s.a then s.setFlag .c false else s).loadValue .a (dasResult (s.flag .c) (s.flag .h) s.a)))

end Sys2Proof.Machine
end

