-- ==== Sys2Proof/Syntax.lean ====
section
/-! DEFINITION. The instructions: one constructor per row of spec/opcode_table.json, in the table's order, each with
the row's syntax, format and rule. Operand names are the spec's (spec/30_encoding.md R51 to R79): `ii` an immediate,
`dd` a direct-page offset (the destination where there are two), `ss` the source offset, `addr` an absolute address,
`rr` a displacement, `uu` an upper-page offset, `bit` a bit number, `n` a TCALL index. -/

namespace Sys2Proof

/-- One instruction with its operands. -/
inductive Instr where
  /-- `NOP`: opcode 0x00, format IMPL, R290 -/
  | nop
  /-- `TCALL n`: opcode 0x01 under mask 0x0F, format TCALL, R258 -/
  | tcall (n : Nat)
  /-- `SET1 dp.bit`: opcode 0x02 under mask 0x1F, format DPBIT, R270 -/
  | set1 (bit : Nat) (dd : Byte)
  /-- `BBS dp.bit, rel`: opcode 0x03 under mask 0x1F, format DPBITREL, R244 -/
  | bbs (bit : Nat) (dd : Byte) (rr : Byte)
  /-- `OR A, dp`: opcode 0x04, format DP, R116 -/
  | orADp (dd : Byte)
  /-- `OR A, !abs`: opcode 0x05, format ABS, R118 -/
  | orAAbs (addr : Word)
  /-- `OR A, (X)`: opcode 0x06, format XIND, R115 -/
  | orAXInd
  /-- `OR A, [dp+X]`: opcode 0x07, format INDX, R121 -/
  | orAIndX (dd : Byte)
  /-- `OR A, #imm`: opcode 0x08, format IMM, R114 -/
  | orAImm (ii : Byte)
  /-- `OR dp, dp`: opcode 0x09, format DPDP, R124 -/
  | orDpDp (ss : Byte) (dd : Byte)
  /-- `OR1 C, mem.bit`: opcode 0x0A, format MEMBIT, R276 -/
  | or1CMem (bit : Nat) (addr : BitVec 13)
  /-- `ASL dp`: opcode 0x0B, format DP, R195 -/
  | aslDp (dd : Byte)
  /-- `ASL !abs`: opcode 0x0C, format ABS, R196 -/
  | aslAbs (addr : Word)
  /-- `PUSH PSW`: opcode 0x0D, format IMPL, R265 -/
  | pushPsw
  /-- `TSET1 !abs`: opcode 0x0E, format ABS, R272 -/
  | tset1 (addr : Word)
  /-- `BRK`: opcode 0x0F, format IMPL, R259 -/
  | brk
  /-- `BPL rel`: opcode 0x10, format REL, R243 -/
  | bpl (rr : Byte)
  /-- `CLR1 dp.bit`: opcode 0x12 under mask 0x1F, format DPBIT, R271 -/
  | clr1 (bit : Nat) (dd : Byte)
  /-- `BBC dp.bit, rel`: opcode 0x13 under mask 0x1F, format DPBITREL, R245 -/
  | bbc (bit : Nat) (dd : Byte) (rr : Byte)
  /-- `OR A, dp+X`: opcode 0x14, format DPX, R117 -/
  | orADpX (dd : Byte)
  /-- `OR A, !abs+X`: opcode 0x15, format ABSX, R119 -/
  | orAAbsX (addr : Word)
  /-- `OR A, !abs+Y`: opcode 0x16, format ABSY, R120 -/
  | orAAbsY (addr : Word)
  /-- `OR A, [dp]+Y`: opcode 0x17, format INDY, R122 -/
  | orAIndY (dd : Byte)
  /-- `OR dp, #imm`: opcode 0x18, format DPIMM, R125 -/
  | orDpImm (ii : Byte) (dd : Byte)
  /-- `OR (X), (Y)`: opcode 0x19, format XY, R123 -/
  | orXY
  /-- `DECW dp`: opcode 0x1A, format DP, R227 -/
  | decw (dd : Byte)
  /-- `ASL dp+X`: opcode 0x1B, format DPX, R197 -/
  | aslDpX (dd : Byte)
  /-- `ASL A`: opcode 0x1C, format IMPL, R194 -/
  | aslA
  /-- `DEC X`: opcode 0x1D, format IMPL, R216 -/
  | decX
  /-- `CMP X, !abs`: opcode 0x1E, format ABS, R188 -/
  | cmpXAbs (addr : Word)
  /-- `JMP [!abs+X]`: opcode 0x1F, format ABSXIND, R251 -/
  | jmpAbsXInd (addr : Word)
  /-- `CLRP`: opcode 0x20, format IMPL, R286 -/
  | clrp
  /-- `AND A, dp`: opcode 0x24, format DP, R128 -/
  | andADp (dd : Byte)
  /-- `AND A, !abs`: opcode 0x25, format ABS, R130 -/
  | andAAbs (addr : Word)
  /-- `AND A, (X)`: opcode 0x26, format XIND, R127 -/
  | andAXInd
  /-- `AND A, [dp+X]`: opcode 0x27, format INDX, R133 -/
  | andAIndX (dd : Byte)
  /-- `AND A, #imm`: opcode 0x28, format IMM, R126 -/
  | andAImm (ii : Byte)
  /-- `AND dp, dp`: opcode 0x29, format DPDP, R136 -/
  | andDpDp (ss : Byte) (dd : Byte)
  /-- `OR1 C, /mem.bit`: opcode 0x2A, format MEMBIT, R277 -/
  | or1CNotMem (bit : Nat) (addr : BitVec 13)
  /-- `ROL dp`: opcode 0x2B, format DP, R203 -/
  | rolDp (dd : Byte)
  /-- `ROL !abs`: opcode 0x2C, format ABS, R204 -/
  | rolAbs (addr : Word)
  /-- `PUSH A`: opcode 0x2D, format IMPL, R262 -/
  | pushA
  /-- `CBNE dp, rel`: opcode 0x2E, format DPREL, R246 -/
  | cbneDp (dd : Byte) (rr : Byte)
  /-- `BRA rel`: opcode 0x2F, format REL, R235 -/
  | bra (rr : Byte)
  /-- `BMI rel`: opcode 0x30, format REL, R242 -/
  | bmi (rr : Byte)
  /-- `AND A, dp+X`: opcode 0x34, format DPX, R129 -/
  | andADpX (dd : Byte)
  /-- `AND A, !abs+X`: opcode 0x35, format ABSX, R131 -/
  | andAAbsX (addr : Word)
  /-- `AND A, !abs+Y`: opcode 0x36, format ABSY, R132 -/
  | andAAbsY (addr : Word)
  /-- `AND A, [dp]+Y`: opcode 0x37, format INDY, R134 -/
  | andAIndY (dd : Byte)
  /-- `AND dp, #imm`: opcode 0x38, format DPIMM, R137 -/
  | andDpImm (ii : Byte) (dd : Byte)
  /-- `AND (X), (Y)`: opcode 0x39, format XY, R135 -/
  | andXY
  /-- `INCW dp`: opcode 0x3A, format DP, R226 -/
  | incw (dd : Byte)
  /-- `ROL dp+X`: opcode 0x3B, format DPX, R205 -/
  | rolDpX (dd : Byte)
  /-- `ROL A`: opcode 0x3C, format IMPL, R202 -/
  | rolA
  /-- `INC X`: opcode 0x3D, format IMPL, R210 -/
  | incX
  /-- `CMP X, dp`: opcode 0x3E, format DP, R187 -/
  | cmpXDp (dd : Byte)
  /-- `CALL !abs`: opcode 0x3F, format ABS, R256 -/
  | call (addr : Word)
  /-- `SETP`: opcode 0x40, format IMPL, R287 -/
  | setp
  /-- `EOR A, dp`: opcode 0x44, format DP, R140 -/
  | eorADp (dd : Byte)
  /-- `EOR A, !abs`: opcode 0x45, format ABS, R142 -/
  | eorAAbs (addr : Word)
  /-- `EOR A, (X)`: opcode 0x46, format XIND, R139 -/
  | eorAXInd
  /-- `EOR A, [dp+X]`: opcode 0x47, format INDX, R145 -/
  | eorAIndX (dd : Byte)
  /-- `EOR A, #imm`: opcode 0x48, format IMM, R138 -/
  | eorAImm (ii : Byte)
  /-- `EOR dp, dp`: opcode 0x49, format DPDP, R148 -/
  | eorDpDp (ss : Byte) (dd : Byte)
  /-- `AND1 C, mem.bit`: opcode 0x4A, format MEMBIT, R274 -/
  | and1CMem (bit : Nat) (addr : BitVec 13)
  /-- `LSR dp`: opcode 0x4B, format DP, R199 -/
  | lsrDp (dd : Byte)
  /-- `LSR !abs`: opcode 0x4C, format ABS, R200 -/
  | lsrAbs (addr : Word)
  /-- `PUSH X`: opcode 0x4D, format IMPL, R263 -/
  | pushX
  /-- `TCLR1 !abs`: opcode 0x4E, format ABS, R273 -/
  | tclr1 (addr : Word)
  /-- `PCALL upage`: opcode 0x4F, format UPAGE, R257 -/
  | pcall (uu : Byte)
  /-- `BVC rel`: opcode 0x50, format REL, R241 -/
  | bvc (rr : Byte)
  /-- `EOR A, dp+X`: opcode 0x54, format DPX, R141 -/
  | eorADpX (dd : Byte)
  /-- `EOR A, !abs+X`: opcode 0x55, format ABSX, R143 -/
  | eorAAbsX (addr : Word)
  /-- `EOR A, !abs+Y`: opcode 0x56, format ABSY, R144 -/
  | eorAAbsY (addr : Word)
  /-- `EOR A, [dp]+Y`: opcode 0x57, format INDY, R146 -/
  | eorAIndY (dd : Byte)
  /-- `EOR dp, #imm`: opcode 0x58, format DPIMM, R149 -/
  | eorDpImm (ii : Byte) (dd : Byte)
  /-- `EOR (X), (Y)`: opcode 0x59, format XY, R147 -/
  | eorXY
  /-- `CMPW YA, dp`: opcode 0x5A, format DP, R230 -/
  | cmpw (dd : Byte)
  /-- `LSR dp+X`: opcode 0x5B, format DPX, R201 -/
  | lsrDpX (dd : Byte)
  /-- `LSR A`: opcode 0x5C, format IMPL, R198 -/
  | lsrA
  /-- `MOV X, A`: opcode 0x5D, format IMPL, R328 -/
  | movXA
  /-- `CMP Y, !abs`: opcode 0x5E, format ABS, R191 -/
  | cmpYAbs (addr : Word)
  /-- `JMP !abs`: opcode 0x5F, format ABS, R250 -/
  | jmpAbs (addr : Word)
  /-- `CLRC`: opcode 0x60, format IMPL, R282 -/
  | clrc
  /-- `CMP A, dp`: opcode 0x64, format DP, R152 -/
  | cmpADp (dd : Byte)
  /-- `CMP A, !abs`: opcode 0x65, format ABS, R154 -/
  | cmpAAbs (addr : Word)
  /-- `CMP A, (X)`: opcode 0x66, format XIND, R151 -/
  | cmpAXInd
  /-- `CMP A, [dp+X]`: opcode 0x67, format INDX, R157 -/
  | cmpAIndX (dd : Byte)
  /-- `CMP A, #imm`: opcode 0x68, format IMM, R150 -/
  | cmpAImm (ii : Byte)
  /-- `CMP dp, dp`: opcode 0x69, format DPDP, R160 -/
  | cmpDpDp (ss : Byte) (dd : Byte)
  /-- `AND1 C, /mem.bit`: opcode 0x6A, format MEMBIT, R275 -/
  | and1CNotMem (bit : Nat) (addr : BitVec 13)
  /-- `ROR dp`: opcode 0x6B, format DP, R207 -/
  | rorDp (dd : Byte)
  /-- `ROR !abs`: opcode 0x6C, format ABS, R208 -/
  | rorAbs (addr : Word)
  /-- `PUSH Y`: opcode 0x6D, format IMPL, R264 -/
  | pushY
  /-- `DBNZ dp, rel`: opcode 0x6E, format DPREL, R248 -/
  | dbnzDp (dd : Byte) (rr : Byte)
  /-- `RET`: opcode 0x6F, format IMPL, R260 -/
  | ret
  /-- `BVS rel`: opcode 0x70, format REL, R240 -/
  | bvs (rr : Byte)
  /-- `CMP A, dp+X`: opcode 0x74, format DPX, R153 -/
  | cmpADpX (dd : Byte)
  /-- `CMP A, !abs+X`: opcode 0x75, format ABSX, R155 -/
  | cmpAAbsX (addr : Word)
  /-- `CMP A, !abs+Y`: opcode 0x76, format ABSY, R156 -/
  | cmpAAbsY (addr : Word)
  /-- `CMP A, [dp]+Y`: opcode 0x77, format INDY, R158 -/
  | cmpAIndY (dd : Byte)
  /-- `CMP dp, #imm`: opcode 0x78, format DPIMM, R161 -/
  | cmpDpImm (ii : Byte) (dd : Byte)
  /-- `CMP (X), (Y)`: opcode 0x79, format XY, R159 -/
  | cmpXY
  /-- `ADDW YA, dp`: opcode 0x7A, format DP, R228 -/
  | addw (dd : Byte)
  /-- `ROR dp+X`: opcode 0x7B, format DPX, R209 -/
  | rorDpX (dd : Byte)
  /-- `ROR A`: opcode 0x7C, format IMPL, R206 -/
  | rorA
  /-- `MOV A, X`: opcode 0x7D, format IMPL, R326 -/
  | movAX
  /-- `CMP Y, dp`: opcode 0x7E, format DP, R190 -/
  | cmpYDp (dd : Byte)
  /-- `RETI`: opcode 0x7F, format IMPL, R261 -/
  | reti
  /-- `SETC`: opcode 0x80, format IMPL, R283 -/
  | setc
  /-- `ADC A, dp`: opcode 0x84, format DP, R164 -/
  | adcADp (dd : Byte)
  /-- `ADC A, !abs`: opcode 0x85, format ABS, R166 -/
  | adcAAbs (addr : Word)
  /-- `ADC A, (X)`: opcode 0x86, format XIND, R163 -/
  | adcAXInd
  /-- `ADC A, [dp+X]`: opcode 0x87, format INDX, R169 -/
  | adcAIndX (dd : Byte)
  /-- `ADC A, #imm`: opcode 0x88, format IMM, R162 -/
  | adcAImm (ii : Byte)
  /-- `ADC dp, dp`: opcode 0x89, format DPDP, R172 -/
  | adcDpDp (ss : Byte) (dd : Byte)
  /-- `EOR1 C, mem.bit`: opcode 0x8A, format MEMBIT, R278 -/
  | eor1CMem (bit : Nat) (addr : BitVec 13)
  /-- `DEC dp`: opcode 0x8B, format DP, R219 -/
  | decDp (dd : Byte)
  /-- `DEC !abs`: opcode 0x8C, format ABS, R220 -/
  | decAbs (addr : Word)
  /-- `MOV Y, #imm`: opcode 0x8D, format IMM, R307 -/
  | movYImm (ii : Byte)
  /-- `POP PSW`: opcode 0x8E, format IMPL, R269 -/
  | popPsw
  /-- `MOV dp, #imm`: opcode 0x8F, format DPIMM, R333 -/
  | movDpImm (ii : Byte) (dd : Byte)
  /-- `BCC rel`: opcode 0x90, format REL, R239 -/
  | bcc (rr : Byte)
  /-- `ADC A, dp+X`: opcode 0x94, format DPX, R165 -/
  | adcADpX (dd : Byte)
  /-- `ADC A, !abs+X`: opcode 0x95, format ABSX, R167 -/
  | adcAAbsX (addr : Word)
  /-- `ADC A, !abs+Y`: opcode 0x96, format ABSY, R168 -/
  | adcAAbsY (addr : Word)
  /-- `ADC A, [dp]+Y`: opcode 0x97, format INDY, R170 -/
  | adcAIndY (dd : Byte)
  /-- `ADC dp, #imm`: opcode 0x98, format DPIMM, R173 -/
  | adcDpImm (ii : Byte) (dd : Byte)
  /-- `ADC (X), (Y)`: opcode 0x99, format XY, R171 -/
  | adcXY
  /-- `SUBW YA, dp`: opcode 0x9A, format DP, R229 -/
  | subw (dd : Byte)
  /-- `DEC dp+X`: opcode 0x9B, format DPX, R221 -/
  | decDpX (dd : Byte)
  /-- `DEC A`: opcode 0x9C, format IMPL, R217 -/
  | decA
  /-- `MOV X, SP`: opcode 0x9D, format IMPL, R330 -/
  | movXSp
  /-- `DIV YA, X`: opcode 0x9E, format IMPL, R232 -/
  | div
  /-- `XCN A`: opcode 0x9F, format IMPL, R222 -/
  | xcn
  /-- `EI`: opcode 0xA0, format IMPL, R288 -/
  | ei
  /-- `SBC A, dp`: opcode 0xA4, format DP, R176 -/
  | sbcADp (dd : Byte)
  /-- `SBC A, !abs`: opcode 0xA5, format ABS, R178 -/
  | sbcAAbs (addr : Word)
  /-- `SBC A, (X)`: opcode 0xA6, format XIND, R175 -/
  | sbcAXInd
  /-- `SBC A, [dp+X]`: opcode 0xA7, format INDX, R181 -/
  | sbcAIndX (dd : Byte)
  /-- `SBC A, #imm`: opcode 0xA8, format IMM, R174 -/
  | sbcAImm (ii : Byte)
  /-- `SBC dp, dp`: opcode 0xA9, format DPDP, R184 -/
  | sbcDpDp (ss : Byte) (dd : Byte)
  /-- `MOV1 C, mem.bit`: opcode 0xAA, format MEMBIT, R279 -/
  | mov1CMem (bit : Nat) (addr : BitVec 13)
  /-- `INC dp`: opcode 0xAB, format DP, R213 -/
  | incDp (dd : Byte)
  /-- `INC !abs`: opcode 0xAC, format ABS, R214 -/
  | incAbs (addr : Word)
  /-- `CMP Y, #imm`: opcode 0xAD, format IMM, R189 -/
  | cmpYImm (ii : Byte)
  /-- `POP A`: opcode 0xAE, format IMPL, R266 -/
  | popA
  /-- `MOV (X)+, A`: opcode 0xAF, format XINDINC, R312 -/
  | movXIncA
  /-- `BCS rel`: opcode 0xB0, format REL, R238 -/
  | bcs (rr : Byte)
  /-- `SBC A, dp+X`: opcode 0xB4, format DPX, R177 -/
  | sbcADpX (dd : Byte)
  /-- `SBC A, !abs+X`: opcode 0xB5, format ABSX, R179 -/
  | sbcAAbsX (addr : Word)
  /-- `SBC A, !abs+Y`: opcode 0xB6, format ABSY, R180 -/
  | sbcAAbsY (addr : Word)
  /-- `SBC A, [dp]+Y`: opcode 0xB7, format INDY, R182 -/
  | sbcAIndY (dd : Byte)
  /-- `SBC dp, #imm`: opcode 0xB8, format DPIMM, R185 -/
  | sbcDpImm (ii : Byte) (dd : Byte)
  /-- `SBC (X), (Y)`: opcode 0xB9, format XY, R183 -/
  | sbcXY
  /-- `MOVW YA, dp`: opcode 0xBA, format DP, R224 -/
  | movwYaDp (dd : Byte)
  /-- `INC dp+X`: opcode 0xBB, format DPX, R215 -/
  | incDpX (dd : Byte)
  /-- `INC A`: opcode 0xBC, format IMPL, R211 -/
  | incA
  /-- `MOV SP, X`: opcode 0xBD, format IMPL, R331 -/
  | movSpX
  /-- `DAS A`: opcode 0xBE, format IMPL, R234 -/
  | das
  /-- `MOV A, (X)+`: opcode 0xBF, format XINDINC, R295 -/
  | movAXInc
  /-- `DI`: opcode 0xC0, format IMPL, R289 -/
  | di
  /-- `MOV dp, A`: opcode 0xC4, format DP, R313 -/
  | movDpA (dd : Byte)
  /-- `MOV !abs, A`: opcode 0xC5, format ABS, R315 -/
  | movAbsA (addr : Word)
  /-- `MOV (X), A`: opcode 0xC6, format XIND, R311 -/
  | movXIndA
  /-- `MOV [dp+X], A`: opcode 0xC7, format INDX, R318 -/
  | movIndXA (dd : Byte)
  /-- `CMP X, #imm`: opcode 0xC8, format IMM, R186 -/
  | cmpXImm (ii : Byte)
  /-- `MOV !abs, X`: opcode 0xC9, format ABS, R322 -/
  | movAbsX (addr : Word)
  /-- `MOV1 mem.bit, C`: opcode 0xCA, format MEMBIT, R281 -/
  | mov1MemC (bit : Nat) (addr : BitVec 13)
  /-- `MOV dp, Y`: opcode 0xCB, format DP, R323 -/
  | movDpY (dd : Byte)
  /-- `MOV !abs, Y`: opcode 0xCC, format ABS, R325 -/
  | movAbsY (addr : Word)
  /-- `MOV X, #imm`: opcode 0xCD, format IMM, R303 -/
  | movXImm (ii : Byte)
  /-- `POP X`: opcode 0xCE, format IMPL, R267 -/
  | popX
  /-- `MUL YA`: opcode 0xCF, format IMPL, R231 -/
  | mul
  /-- `BNE rel`: opcode 0xD0, format REL, R237 -/
  | bne (rr : Byte)
  /-- `MOV dp+X, A`: opcode 0xD4, format DPX, R314 -/
  | movDpXA (dd : Byte)
  /-- `MOV !abs+X, A`: opcode 0xD5, format ABSX, R316 -/
  | movAbsXA (addr : Word)
  /-- `MOV !abs+Y, A`: opcode 0xD6, format ABSY, R317 -/
  | movAbsYA (addr : Word)
  /-- `MOV [dp]+Y, A`: opcode 0xD7, format INDY, R319 -/
  | movIndYA (dd : Byte)
  /-- `MOV dp, X`: opcode 0xD8, format DP, R320 -/
  | movDpX (dd : Byte)
  /-- `MOV dp+Y, X`: opcode 0xD9, format DPY, R321 -/
  | movDpYX (dd : Byte)
  /-- `MOVW dp, YA`: opcode 0xDA, format DP, R225 -/
  | movwDpYa (dd : Byte)
  /-- `MOV dp+X, Y`: opcode 0xDB, format DPX, R324 -/
  | movDpXY (dd : Byte)
  /-- `DEC Y`: opcode 0xDC, format IMPL, R218 -/
  | decY
  /-- `MOV A, Y`: opcode 0xDD, format IMPL, R327 -/
  | movAY
  /-- `CBNE dp+X, rel`: opcode 0xDE, format DPXREL, R247 -/
  | cbneDpX (dd : Byte) (rr : Byte)
  /-- `DAA A`: opcode 0xDF, format IMPL, R233 -/
  | daa
  /-- `CLRV`: opcode 0xE0, format IMPL, R285 -/
  | clrv
  /-- `MOV A, dp`: opcode 0xE4, format DP, R296 -/
  | movADp (dd : Byte)
  /-- `MOV A, !abs`: opcode 0xE5, format ABS, R298 -/
  | movAAbs (addr : Word)
  /-- `MOV A, (X)`: opcode 0xE6, format XIND, R294 -/
  | movAXInd
  /-- `MOV A, [dp+X]`: opcode 0xE7, format INDX, R301 -/
  | movAIndX (dd : Byte)
  /-- `MOV A, #imm`: opcode 0xE8, format IMM, R293 -/
  | movAImm (ii : Byte)
  /-- `MOV X, !abs`: opcode 0xE9, format ABS, R306 -/
  | movXAbs (addr : Word)
  /-- `NOT1 mem.bit`: opcode 0xEA, format MEMBIT, R280 -/
  | not1 (bit : Nat) (addr : BitVec 13)
  /-- `MOV Y, dp`: opcode 0xEB, format DP, R308 -/
  | movYDp (dd : Byte)
  /-- `MOV Y, !abs`: opcode 0xEC, format ABS, R310 -/
  | movYAbs (addr : Word)
  /-- `NOTC`: opcode 0xED, format IMPL, R284 -/
  | notc
  /-- `POP Y`: opcode 0xEE, format IMPL, R268 -/
  | popY
  /-- `SLEEP`: opcode 0xEF, format IMPL, R291 -/
  | sleep
  /-- `BEQ rel`: opcode 0xF0, format REL, R236 -/
  | beq (rr : Byte)
  /-- `MOV A, dp+X`: opcode 0xF4, format DPX, R297 -/
  | movADpX (dd : Byte)
  /-- `MOV A, !abs+X`: opcode 0xF5, format ABSX, R299 -/
  | movAAbsX (addr : Word)
  /-- `MOV A, !abs+Y`: opcode 0xF6, format ABSY, R300 -/
  | movAAbsY (addr : Word)
  /-- `MOV A, [dp]+Y`: opcode 0xF7, format INDY, R302 -/
  | movAIndY (dd : Byte)
  /-- `MOV X, dp`: opcode 0xF8, format DP, R304 -/
  | movXDp (dd : Byte)
  /-- `MOV X, dp+Y`: opcode 0xF9, format DPY, R305 -/
  | movXDpY (dd : Byte)
  /-- `MOV dp, dp`: opcode 0xFA, format DPDP, R332 -/
  | movDpDp (ss : Byte) (dd : Byte)
  /-- `MOV Y, dp+X`: opcode 0xFB, format DPX, R309 -/
  | movYDpX (dd : Byte)
  /-- `INC Y`: opcode 0xFC, format IMPL, R212 -/
  | incY
  /-- `MOV Y, A`: opcode 0xFD, format IMPL, R329 -/
  | movYA
  /-- `DBNZ Y, rel`: opcode 0xFE, format REL, R249 -/
  | dbnzY (rr : Byte)
  /-- `STOP`: opcode 0xFF, format IMPL, R292 -/
  | stop
deriving DecidableEq, Repr

end Sys2Proof
end

