-- ==== Sys2Proof/Machine/Dispatch.lean ====
section
/-! DEFINITION. The meaning of each instruction, one arm per constructor of `Instr`. -/

namespace Sys2Proof.Machine

def exec (i : Instr) (s : State) : Host.Outcome State Fault Refusal :=
  match i with
  | .nop => Sys2Proof.Machine.execNop s
  | .tcall n => Sys2Proof.Machine.execTcall n s
  | .set1 bit dd => Sys2Proof.Machine.execSet1 bit dd s
  | .bbs bit dd rr => Sys2Proof.Machine.execBbs bit dd rr s
  | .orADp dd => Sys2Proof.Machine.execOrADp dd s
  | .orAAbs addr => Sys2Proof.Machine.execOrAAbs addr s
  | .orAXInd => Sys2Proof.Machine.execOrAXInd s
  | .orAIndX dd => Sys2Proof.Machine.execOrAIndX dd s
  | .orAImm ii => Sys2Proof.Machine.execOrAImm ii s
  | .orDpDp ss dd => Sys2Proof.Machine.execOrDpDp ss dd s
  | .or1CMem bit addr => Sys2Proof.Machine.execOr1CMem bit addr s
  | .aslDp dd => Sys2Proof.Machine.execAslDp dd s
  | .aslAbs addr => Sys2Proof.Machine.execAslAbs addr s
  | .pushPsw => Sys2Proof.Machine.execPushPsw s
  | .tset1 addr => Sys2Proof.Machine.execTset1 addr s
  | .brk => Sys2Proof.Machine.execBrk s
  | .bpl rr => Sys2Proof.Machine.execBpl rr s
  | .clr1 bit dd => Sys2Proof.Machine.execClr1 bit dd s
  | .bbc bit dd rr => Sys2Proof.Machine.execBbc bit dd rr s
  | .orADpX dd => Sys2Proof.Machine.execOrADpX dd s
  | .orAAbsX addr => Sys2Proof.Machine.execOrAAbsX addr s
  | .orAAbsY addr => Sys2Proof.Machine.execOrAAbsY addr s
  | .orAIndY dd => Sys2Proof.Machine.execOrAIndY dd s
  | .orDpImm ii dd => Sys2Proof.Machine.execOrDpImm ii dd s
  | .orXY => Sys2Proof.Machine.execOrXY s
  | .decw dd => Sys2Proof.Machine.execDecw dd s
  | .aslDpX dd => Sys2Proof.Machine.execAslDpX dd s
  | .aslA => Sys2Proof.Machine.execAslA s
  | .decX => Sys2Proof.Machine.execDecX s
  | .cmpXAbs addr => Sys2Proof.Machine.execCmpXAbs addr s
  | .jmpAbsXInd addr => Sys2Proof.Machine.execJmpAbsXInd addr s
  | .clrp => Sys2Proof.Machine.execClrp s
  | .andADp dd => Sys2Proof.Machine.execAndADp dd s
  | .andAAbs addr => Sys2Proof.Machine.execAndAAbs addr s
  | .andAXInd => Sys2Proof.Machine.execAndAXInd s
  | .andAIndX dd => Sys2Proof.Machine.execAndAIndX dd s
  | .andAImm ii => Sys2Proof.Machine.execAndAImm ii s
  | .andDpDp ss dd => Sys2Proof.Machine.execAndDpDp ss dd s
  | .or1CNotMem bit addr => Sys2Proof.Machine.execOr1CNotMem bit addr s
  | .rolDp dd => Sys2Proof.Machine.execRolDp dd s
  | .rolAbs addr => Sys2Proof.Machine.execRolAbs addr s
  | .pushA => Sys2Proof.Machine.execPushA s
  | .cbneDp dd rr => Sys2Proof.Machine.execCbneDp dd rr s
  | .bra rr => Sys2Proof.Machine.execBra rr s
  | .bmi rr => Sys2Proof.Machine.execBmi rr s
  | .andADpX dd => Sys2Proof.Machine.execAndADpX dd s
  | .andAAbsX addr => Sys2Proof.Machine.execAndAAbsX addr s
  | .andAAbsY addr => Sys2Proof.Machine.execAndAAbsY addr s
  | .andAIndY dd => Sys2Proof.Machine.execAndAIndY dd s
  | .andDpImm ii dd => Sys2Proof.Machine.execAndDpImm ii dd s
  | .andXY => Sys2Proof.Machine.execAndXY s
  | .incw dd => Sys2Proof.Machine.execIncw dd s
  | .rolDpX dd => Sys2Proof.Machine.execRolDpX dd s
  | .rolA => Sys2Proof.Machine.execRolA s
  | .incX => Sys2Proof.Machine.execIncX s
  | .cmpXDp dd => Sys2Proof.Machine.execCmpXDp dd s
  | .call addr => Sys2Proof.Machine.execCall addr s
  | .setp => Sys2Proof.Machine.execSetp s
  | .eorADp dd => Sys2Proof.Machine.execEorADp dd s
  | .eorAAbs addr => Sys2Proof.Machine.execEorAAbs addr s
  | .eorAXInd => Sys2Proof.Machine.execEorAXInd s
  | .eorAIndX dd => Sys2Proof.Machine.execEorAIndX dd s
  | .eorAImm ii => Sys2Proof.Machine.execEorAImm ii s
  | .eorDpDp ss dd => Sys2Proof.Machine.execEorDpDp ss dd s
  | .and1CMem bit addr => Sys2Proof.Machine.execAnd1CMem bit addr s
  | .lsrDp dd => Sys2Proof.Machine.execLsrDp dd s
  | .lsrAbs addr => Sys2Proof.Machine.execLsrAbs addr s
  | .pushX => Sys2Proof.Machine.execPushX s
  | .tclr1 addr => Sys2Proof.Machine.execTclr1 addr s
  | .pcall uu => Sys2Proof.Machine.execPcall uu s
  | .bvc rr => Sys2Proof.Machine.execBvc rr s
  | .eorADpX dd => Sys2Proof.Machine.execEorADpX dd s
  | .eorAAbsX addr => Sys2Proof.Machine.execEorAAbsX addr s
  | .eorAAbsY addr => Sys2Proof.Machine.execEorAAbsY addr s
  | .eorAIndY dd => Sys2Proof.Machine.execEorAIndY dd s
  | .eorDpImm ii dd => Sys2Proof.Machine.execEorDpImm ii dd s
  | .eorXY => Sys2Proof.Machine.execEorXY s
  | .cmpw dd => Sys2Proof.Machine.execCmpw dd s
  | .lsrDpX dd => Sys2Proof.Machine.execLsrDpX dd s
  | .lsrA => Sys2Proof.Machine.execLsrA s
  | .movXA => Sys2Proof.Machine.execMovXA s
  | .cmpYAbs addr => Sys2Proof.Machine.execCmpYAbs addr s
  | .jmpAbs addr => Sys2Proof.Machine.execJmpAbs addr s
  | .clrc => Sys2Proof.Machine.execClrc s
  | .cmpADp dd => Sys2Proof.Machine.execCmpADp dd s
  | .cmpAAbs addr => Sys2Proof.Machine.execCmpAAbs addr s
  | .cmpAXInd => Sys2Proof.Machine.execCmpAXInd s
  | .cmpAIndX dd => Sys2Proof.Machine.execCmpAIndX dd s
  | .cmpAImm ii => Sys2Proof.Machine.execCmpAImm ii s
  | .cmpDpDp ss dd => Sys2Proof.Machine.execCmpDpDp ss dd s
  | .and1CNotMem bit addr => Sys2Proof.Machine.execAnd1CNotMem bit addr s
  | .rorDp dd => Sys2Proof.Machine.execRorDp dd s
  | .rorAbs addr => Sys2Proof.Machine.execRorAbs addr s
  | .pushY => Sys2Proof.Machine.execPushY s
  | .dbnzDp dd rr => Sys2Proof.Machine.execDbnzDp dd rr s
  | .ret => Sys2Proof.Machine.execRet s
  | .bvs rr => Sys2Proof.Machine.execBvs rr s
  | .cmpADpX dd => Sys2Proof.Machine.execCmpADpX dd s
  | .cmpAAbsX addr => Sys2Proof.Machine.execCmpAAbsX addr s
  | .cmpAAbsY addr => Sys2Proof.Machine.execCmpAAbsY addr s
  | .cmpAIndY dd => Sys2Proof.Machine.execCmpAIndY dd s
  | .cmpDpImm ii dd => Sys2Proof.Machine.execCmpDpImm ii dd s
  | .cmpXY => Sys2Proof.Machine.execCmpXY s
  | .addw dd => Sys2Proof.Machine.execAddw dd s
  | .rorDpX dd => Sys2Proof.Machine.execRorDpX dd s
  | .rorA => Sys2Proof.Machine.execRorA s
  | .movAX => Sys2Proof.Machine.execMovAX s
  | .cmpYDp dd => Sys2Proof.Machine.execCmpYDp dd s
  | .reti => Sys2Proof.Machine.execReti s
  | .setc => Sys2Proof.Machine.execSetc s
  | .adcADp dd => Sys2Proof.Machine.execAdcADp dd s
  | .adcAAbs addr => Sys2Proof.Machine.execAdcAAbs addr s
  | .adcAXInd => Sys2Proof.Machine.execAdcAXInd s
  | .adcAIndX dd => Sys2Proof.Machine.execAdcAIndX dd s
  | .adcAImm ii => Sys2Proof.Machine.execAdcAImm ii s
  | .adcDpDp ss dd => Sys2Proof.Machine.execAdcDpDp ss dd s
  | .eor1CMem bit addr => Sys2Proof.Machine.execEor1CMem bit addr s
  | .decDp dd => Sys2Proof.Machine.execDecDp dd s
  | .decAbs addr => Sys2Proof.Machine.execDecAbs addr s
  | .movYImm ii => Sys2Proof.Machine.execMovYImm ii s
  | .popPsw => Sys2Proof.Machine.execPopPsw s
  | .movDpImm ii dd => Sys2Proof.Machine.execMovDpImm ii dd s
  | .bcc rr => Sys2Proof.Machine.execBcc rr s
  | .adcADpX dd => Sys2Proof.Machine.execAdcADpX dd s
  | .adcAAbsX addr => Sys2Proof.Machine.execAdcAAbsX addr s
  | .adcAAbsY addr => Sys2Proof.Machine.execAdcAAbsY addr s
  | .adcAIndY dd => Sys2Proof.Machine.execAdcAIndY dd s
  | .adcDpImm ii dd => Sys2Proof.Machine.execAdcDpImm ii dd s
  | .adcXY => Sys2Proof.Machine.execAdcXY s
  | .subw dd => Sys2Proof.Machine.execSubw dd s
  | .decDpX dd => Sys2Proof.Machine.execDecDpX dd s
  | .decA => Sys2Proof.Machine.execDecA s
  | .movXSp => Sys2Proof.Machine.execMovXSp s
  | .div => Sys2Proof.Machine.execDiv s
  | .xcn => Sys2Proof.Machine.execXcn s
  | .ei => Sys2Proof.Machine.execEi s
  | .sbcADp dd => Sys2Proof.Machine.execSbcADp dd s
  | .sbcAAbs addr => Sys2Proof.Machine.execSbcAAbs addr s
  | .sbcAXInd => Sys2Proof.Machine.execSbcAXInd s
  | .sbcAIndX dd => Sys2Proof.Machine.execSbcAIndX dd s
  | .sbcAImm ii => Sys2Proof.Machine.execSbcAImm ii s
  | .sbcDpDp ss dd => Sys2Proof.Machine.execSbcDpDp ss dd s
  | .mov1CMem bit addr => Sys2Proof.Machine.execMov1CMem bit addr s
  | .incDp dd => Sys2Proof.Machine.execIncDp dd s
  | .incAbs addr => Sys2Proof.Machine.execIncAbs addr s
  | .cmpYImm ii => Sys2Proof.Machine.execCmpYImm ii s
  | .popA => Sys2Proof.Machine.execPopA s
  | .movXIncA => Sys2Proof.Machine.execMovXIncA s
  | .bcs rr => Sys2Proof.Machine.execBcs rr s
  | .sbcADpX dd => Sys2Proof.Machine.execSbcADpX dd s
  | .sbcAAbsX addr => Sys2Proof.Machine.execSbcAAbsX addr s
  | .sbcAAbsY addr => Sys2Proof.Machine.execSbcAAbsY addr s
  | .sbcAIndY dd => Sys2Proof.Machine.execSbcAIndY dd s
  | .sbcDpImm ii dd => Sys2Proof.Machine.execSbcDpImm ii dd s
  | .sbcXY => Sys2Proof.Machine.execSbcXY s
  | .movwYaDp dd => Sys2Proof.Machine.execMovwYaDp dd s
  | .incDpX dd => Sys2Proof.Machine.execIncDpX dd s
  | .incA => Sys2Proof.Machine.execIncA s
  | .movSpX => Sys2Proof.Machine.execMovSpX s
  | .das => Sys2Proof.Machine.execDas s
  | .movAXInc => Sys2Proof.Machine.execMovAXInc s
  | .di => Sys2Proof.Machine.execDi s
  | .movDpA dd => Sys2Proof.Machine.execMovDpA dd s
  | .movAbsA addr => Sys2Proof.Machine.execMovAbsA addr s
  | .movXIndA => Sys2Proof.Machine.execMovXIndA s
  | .movIndXA dd => Sys2Proof.Machine.execMovIndXA dd s
  | .cmpXImm ii => Sys2Proof.Machine.execCmpXImm ii s
  | .movAbsX addr => Sys2Proof.Machine.execMovAbsX addr s
  | .mov1MemC bit addr => Sys2Proof.Machine.execMov1MemC bit addr s
  | .movDpY dd => Sys2Proof.Machine.execMovDpY dd s
  | .movAbsY addr => Sys2Proof.Machine.execMovAbsY addr s
  | .movXImm ii => Sys2Proof.Machine.execMovXImm ii s
  | .popX => Sys2Proof.Machine.execPopX s
  | .mul => Sys2Proof.Machine.execMul s
  | .bne rr => Sys2Proof.Machine.execBne rr s
  | .movDpXA dd => Sys2Proof.Machine.execMovDpXA dd s
  | .movAbsXA addr => Sys2Proof.Machine.execMovAbsXA addr s
  | .movAbsYA addr => Sys2Proof.Machine.execMovAbsYA addr s
  | .movIndYA dd => Sys2Proof.Machine.execMovIndYA dd s
  | .movDpX dd => Sys2Proof.Machine.execMovDpX dd s
  | .movDpYX dd => Sys2Proof.Machine.execMovDpYX dd s
  | .movwDpYa dd => Sys2Proof.Machine.execMovwDpYa dd s
  | .movDpXY dd => Sys2Proof.Machine.execMovDpXY dd s
  | .decY => Sys2Proof.Machine.execDecY s
  | .movAY => Sys2Proof.Machine.execMovAY s
  | .cbneDpX dd rr => Sys2Proof.Machine.execCbneDpX dd rr s
  | .daa => Sys2Proof.Machine.execDaa s
  | .clrv => Sys2Proof.Machine.execClrv s
  | .movADp dd => Sys2Proof.Machine.execMovADp dd s
  | .movAAbs addr => Sys2Proof.Machine.execMovAAbs addr s
  | .movAXInd => Sys2Proof.Machine.execMovAXInd s
  | .movAIndX dd => Sys2Proof.Machine.execMovAIndX dd s
  | .movAImm ii => Sys2Proof.Machine.execMovAImm ii s
  | .movXAbs addr => Sys2Proof.Machine.execMovXAbs addr s
  | .not1 bit addr => Sys2Proof.Machine.execNot1 bit addr s
  | .movYDp dd => Sys2Proof.Machine.execMovYDp dd s
  | .movYAbs addr => Sys2Proof.Machine.execMovYAbs addr s
  | .notc => Sys2Proof.Machine.execNotc s
  | .popY => Sys2Proof.Machine.execPopY s
  | .sleep => Sys2Proof.Machine.execSleep s
  | .beq rr => Sys2Proof.Machine.execBeq rr s
  | .movADpX dd => Sys2Proof.Machine.execMovADpX dd s
  | .movAAbsX addr => Sys2Proof.Machine.execMovAAbsX addr s
  | .movAAbsY addr => Sys2Proof.Machine.execMovAAbsY addr s
  | .movAIndY dd => Sys2Proof.Machine.execMovAIndY dd s
  | .movXDp dd => Sys2Proof.Machine.execMovXDp dd s
  | .movXDpY dd => Sys2Proof.Machine.execMovXDpY dd s
  | .movDpDp ss dd => Sys2Proof.Machine.execMovDpDp ss dd s
  | .movYDpX dd => Sys2Proof.Machine.execMovYDpX dd s
  | .incY => Sys2Proof.Machine.execIncY s
  | .movYA => Sys2Proof.Machine.execMovYA s
  | .dbnzY rr => Sys2Proof.Machine.execDbnzY rr s
  | .stop => Sys2Proof.Machine.execStop s

end Sys2Proof.Machine
end

