-- ==== Sys2Proof/WellFormed.lean ====
section
/-! DEFINITION. Which instruction terms an encoding exists for. The byte, word and 13-bit operands are bounded by their
types; a bit number and a TCALL index are numbers that the encoding bounds. -/

namespace Sys2Proof

/-- A bit number fits the three bits the encoding gives it: opcode[7:5] (spec/30_encoding.md R78) or w[15:13] (R77). -/
def bitOk (bit : Nat) : Bool := bit < 8

/-- A TCALL index fits opcode[7:4] (R79). -/
def tcallOk (n : Nat) : Bool := n < 16

/-- The instruction's operands fit its encoding. -/
def wellFormed (i : Instr) : Bool :=
  match i with
  | .nop => true
  | .tcall n => tcallOk n
  | .set1 bit _ => bitOk bit
  | .bbs bit _ _ => bitOk bit
  | .orADp _ => true
  | .orAAbs _ => true
  | .orAXInd => true
  | .orAIndX _ => true
  | .orAImm _ => true
  | .orDpDp _ _ => true
  | .or1CMem bit _ => bitOk bit
  | .aslDp _ => true
  | .aslAbs _ => true
  | .pushPsw => true
  | .tset1 _ => true
  | .brk => true
  | .bpl _ => true
  | .clr1 bit _ => bitOk bit
  | .bbc bit _ _ => bitOk bit
  | .orADpX _ => true
  | .orAAbsX _ => true
  | .orAAbsY _ => true
  | .orAIndY _ => true
  | .orDpImm _ _ => true
  | .orXY => true
  | .decw _ => true
  | .aslDpX _ => true
  | .aslA => true
  | .decX => true
  | .cmpXAbs _ => true
  | .jmpAbsXInd _ => true
  | .clrp => true
  | .andADp _ => true
  | .andAAbs _ => true
  | .andAXInd => true
  | .andAIndX _ => true
  | .andAImm _ => true
  | .andDpDp _ _ => true
  | .or1CNotMem bit _ => bitOk bit
  | .rolDp _ => true
  | .rolAbs _ => true
  | .pushA => true
  | .cbneDp _ _ => true
  | .bra _ => true
  | .bmi _ => true
  | .andADpX _ => true
  | .andAAbsX _ => true
  | .andAAbsY _ => true
  | .andAIndY _ => true
  | .andDpImm _ _ => true
  | .andXY => true
  | .incw _ => true
  | .rolDpX _ => true
  | .rolA => true
  | .incX => true
  | .cmpXDp _ => true
  | .call _ => true
  | .setp => true
  | .eorADp _ => true
  | .eorAAbs _ => true
  | .eorAXInd => true
  | .eorAIndX _ => true
  | .eorAImm _ => true
  | .eorDpDp _ _ => true
  | .and1CMem bit _ => bitOk bit
  | .lsrDp _ => true
  | .lsrAbs _ => true
  | .pushX => true
  | .tclr1 _ => true
  | .pcall _ => true
  | .bvc _ => true
  | .eorADpX _ => true
  | .eorAAbsX _ => true
  | .eorAAbsY _ => true
  | .eorAIndY _ => true
  | .eorDpImm _ _ => true
  | .eorXY => true
  | .cmpw _ => true
  | .lsrDpX _ => true
  | .lsrA => true
  | .movXA => true
  | .cmpYAbs _ => true
  | .jmpAbs _ => true
  | .clrc => true
  | .cmpADp _ => true
  | .cmpAAbs _ => true
  | .cmpAXInd => true
  | .cmpAIndX _ => true
  | .cmpAImm _ => true
  | .cmpDpDp _ _ => true
  | .and1CNotMem bit _ => bitOk bit
  | .rorDp _ => true
  | .rorAbs _ => true
  | .pushY => true
  | .dbnzDp _ _ => true
  | .ret => true
  | .bvs _ => true
  | .cmpADpX _ => true
  | .cmpAAbsX _ => true
  | .cmpAAbsY _ => true
  | .cmpAIndY _ => true
  | .cmpDpImm _ _ => true
  | .cmpXY => true
  | .addw _ => true
  | .rorDpX _ => true
  | .rorA => true
  | .movAX => true
  | .cmpYDp _ => true
  | .reti => true
  | .setc => true
  | .adcADp _ => true
  | .adcAAbs _ => true
  | .adcAXInd => true
  | .adcAIndX _ => true
  | .adcAImm _ => true
  | .adcDpDp _ _ => true
  | .eor1CMem bit _ => bitOk bit
  | .decDp _ => true
  | .decAbs _ => true
  | .movYImm _ => true
  | .popPsw => true
  | .movDpImm _ _ => true
  | .bcc _ => true
  | .adcADpX _ => true
  | .adcAAbsX _ => true
  | .adcAAbsY _ => true
  | .adcAIndY _ => true
  | .adcDpImm _ _ => true
  | .adcXY => true
  | .subw _ => true
  | .decDpX _ => true
  | .decA => true
  | .movXSp => true
  | .div => true
  | .xcn => true
  | .ei => true
  | .sbcADp _ => true
  | .sbcAAbs _ => true
  | .sbcAXInd => true
  | .sbcAIndX _ => true
  | .sbcAImm _ => true
  | .sbcDpDp _ _ => true
  | .mov1CMem bit _ => bitOk bit
  | .incDp _ => true
  | .incAbs _ => true
  | .cmpYImm _ => true
  | .popA => true
  | .movXIncA => true
  | .bcs _ => true
  | .sbcADpX _ => true
  | .sbcAAbsX _ => true
  | .sbcAAbsY _ => true
  | .sbcAIndY _ => true
  | .sbcDpImm _ _ => true
  | .sbcXY => true
  | .movwYaDp _ => true
  | .incDpX _ => true
  | .incA => true
  | .movSpX => true
  | .das => true
  | .movAXInc => true
  | .di => true
  | .movDpA _ => true
  | .movAbsA _ => true
  | .movXIndA => true
  | .movIndXA _ => true
  | .cmpXImm _ => true
  | .movAbsX _ => true
  | .mov1MemC bit _ => bitOk bit
  | .movDpY _ => true
  | .movAbsY _ => true
  | .movXImm _ => true
  | .popX => true
  | .mul => true
  | .bne _ => true
  | .movDpXA _ => true
  | .movAbsXA _ => true
  | .movAbsYA _ => true
  | .movIndYA _ => true
  | .movDpX _ => true
  | .movDpYX _ => true
  | .movwDpYa _ => true
  | .movDpXY _ => true
  | .decY => true
  | .movAY => true
  | .cbneDpX _ _ => true
  | .daa => true
  | .clrv => true
  | .movADp _ => true
  | .movAAbs _ => true
  | .movAXInd => true
  | .movAIndX _ => true
  | .movAImm _ => true
  | .movXAbs _ => true
  | .not1 bit _ => bitOk bit
  | .movYDp _ => true
  | .movYAbs _ => true
  | .notc => true
  | .popY => true
  | .sleep => true
  | .beq _ => true
  | .movADpX _ => true
  | .movAAbsX _ => true
  | .movAAbsY _ => true
  | .movAIndY _ => true
  | .movXDp _ => true
  | .movXDpY _ => true
  | .movDpDp _ _ => true
  | .movYDpX _ => true
  | .incY => true
  | .movYA => true
  | .dbnzY _ => true
  | .stop => true

/-- `i` is well formed. -/
abbrev Instr.WellFormed (i : Instr) : Prop := wellFormed i = true

end Sys2Proof
end

