-- ==== Sys2Proof/Decode.lean ====
section
/-! DEFINITION. The decoder, total on any bytes, and after it the encoder, both written from the opcode table and the
formats of spec/30_encoding.md R50 to R82. -/

namespace Sys2Proof

/-- The operand word `hh:ll` of its two bytes in stream order, low byte first (R75, R76). -/
def operandWord (ll hh : Byte) : Word := (hh ++ ll : BitVec (8 + 8))

/-- `bit = w[15:13]` of a mem.bit operand word (R77). -/
def memBitNumber (w : Word) : Nat := (w.extractLsb' 13 3).toNat

/-- `addr = w[12:0]` of a mem.bit operand word (R77). -/
def memBitAddress (w : Word) : BitVec 13 := w.extractLsb' 0 13

/-- `bit = opcode[7:5]` (R78). -/
def opcodeBit (op : Byte) : Nat := (op.extractLsb' 5 3).toNat

/-- `n = opcode[7:4]` (R79). -/
def opcodeIndex (op : Byte) : Nat := (op.extractLsb' 4 4).toNat

/-- One row of the opcode table: an opcode byte `op` selects it when `op &&& mask = pattern`; `length` is in bytes;
`build` reads the operands from the opcode byte and the two bytes after it (bytes above `length` are not used). -/
structure Row where
  pattern : Byte
  mask : Byte
  length : Nat
  build : Byte → Byte → Byte → Instr

/-- The row selects the opcode byte (R80). -/
def Row.selects (r : Row) (op : Byte) : Bool := (op &&& r.mask) == r.pattern

/-- The rows whose opcode pattern has high nibble 0 (spec/30_encoding.md R80, `opcode_table.json`). -/
def rows0x : List Row := [
  ⟨0x00, 0xFF, 1, fun _ _ _ => .nop⟩,
  ⟨0x01, 0x0F, 1, fun op _ _ => .tcall (opcodeIndex op)⟩,
  ⟨0x02, 0x1F, 2, fun op b1 _ => .set1 (opcodeBit op) b1⟩,
  ⟨0x03, 0x1F, 3, fun op b1 b2 => .bbs (opcodeBit op) b1 b2⟩,
  ⟨0x04, 0xFF, 2, fun _ b1 _ => .orADp b1⟩,
  ⟨0x05, 0xFF, 3, fun _ b1 b2 => .orAAbs (operandWord b1 b2)⟩,
  ⟨0x06, 0xFF, 1, fun _ _ _ => .orAXInd⟩,
  ⟨0x07, 0xFF, 2, fun _ b1 _ => .orAIndX b1⟩,
  ⟨0x08, 0xFF, 2, fun _ b1 _ => .orAImm b1⟩,
  ⟨0x09, 0xFF, 3, fun _ b1 b2 => .orDpDp b1 b2⟩,
  ⟨0x0A, 0xFF, 3, fun _ b1 b2 => .or1CMem (memBitNumber (operandWord b1 b2)) (memBitAddress (operandWord b1 b2))⟩,
  ⟨0x0B, 0xFF, 2, fun _ b1 _ => .aslDp b1⟩,
  ⟨0x0C, 0xFF, 3, fun _ b1 b2 => .aslAbs (operandWord b1 b2)⟩,
  ⟨0x0D, 0xFF, 1, fun _ _ _ => .pushPsw⟩,
  ⟨0x0E, 0xFF, 3, fun _ b1 b2 => .tset1 (operandWord b1 b2)⟩,
  ⟨0x0F, 0xFF, 1, fun _ _ _ => .brk⟩]

/-- The rows whose opcode pattern has high nibble 1 (spec/30_encoding.md R80, `opcode_table.json`). -/
def rows1x : List Row := [
  ⟨0x10, 0xFF, 2, fun _ b1 _ => .bpl b1⟩,
  ⟨0x12, 0x1F, 2, fun op b1 _ => .clr1 (opcodeBit op) b1⟩,
  ⟨0x13, 0x1F, 3, fun op b1 b2 => .bbc (opcodeBit op) b1 b2⟩,
  ⟨0x14, 0xFF, 2, fun _ b1 _ => .orADpX b1⟩,
  ⟨0x15, 0xFF, 3, fun _ b1 b2 => .orAAbsX (operandWord b1 b2)⟩,
  ⟨0x16, 0xFF, 3, fun _ b1 b2 => .orAAbsY (operandWord b1 b2)⟩,
  ⟨0x17, 0xFF, 2, fun _ b1 _ => .orAIndY b1⟩,
  ⟨0x18, 0xFF, 3, fun _ b1 b2 => .orDpImm b1 b2⟩,
  ⟨0x19, 0xFF, 1, fun _ _ _ => .orXY⟩,
  ⟨0x1A, 0xFF, 2, fun _ b1 _ => .decw b1⟩,
  ⟨0x1B, 0xFF, 2, fun _ b1 _ => .aslDpX b1⟩,
  ⟨0x1C, 0xFF, 1, fun _ _ _ => .aslA⟩,
  ⟨0x1D, 0xFF, 1, fun _ _ _ => .decX⟩,
  ⟨0x1E, 0xFF, 3, fun _ b1 b2 => .cmpXAbs (operandWord b1 b2)⟩,
  ⟨0x1F, 0xFF, 3, fun _ b1 b2 => .jmpAbsXInd (operandWord b1 b2)⟩]

/-- The rows whose opcode pattern has high nibble 2 (spec/30_encoding.md R80, `opcode_table.json`). -/
def rows2x : List Row := [
  ⟨0x20, 0xFF, 1, fun _ _ _ => .clrp⟩,
  ⟨0x24, 0xFF, 2, fun _ b1 _ => .andADp b1⟩,
  ⟨0x25, 0xFF, 3, fun _ b1 b2 => .andAAbs (operandWord b1 b2)⟩,
  ⟨0x26, 0xFF, 1, fun _ _ _ => .andAXInd⟩,
  ⟨0x27, 0xFF, 2, fun _ b1 _ => .andAIndX b1⟩,
  ⟨0x28, 0xFF, 2, fun _ b1 _ => .andAImm b1⟩,
  ⟨0x29, 0xFF, 3, fun _ b1 b2 => .andDpDp b1 b2⟩,
  ⟨0x2A, 0xFF, 3, fun _ b1 b2 => .or1CNotMem (memBitNumber (operandWord b1 b2)) (memBitAddress (operandWord b1 b2))⟩,
  ⟨0x2B, 0xFF, 2, fun _ b1 _ => .rolDp b1⟩,
  ⟨0x2C, 0xFF, 3, fun _ b1 b2 => .rolAbs (operandWord b1 b2)⟩,
  ⟨0x2D, 0xFF, 1, fun _ _ _ => .pushA⟩,
  ⟨0x2E, 0xFF, 3, fun _ b1 b2 => .cbneDp b1 b2⟩,
  ⟨0x2F, 0xFF, 2, fun _ b1 _ => .bra b1⟩]

/-- The rows whose opcode pattern has high nibble 3 (spec/30_encoding.md R80, `opcode_table.json`). -/
def rows3x : List Row := [
  ⟨0x30, 0xFF, 2, fun _ b1 _ => .bmi b1⟩,
  ⟨0x34, 0xFF, 2, fun _ b1 _ => .andADpX b1⟩,
  ⟨0x35, 0xFF, 3, fun _ b1 b2 => .andAAbsX (operandWord b1 b2)⟩,
  ⟨0x36, 0xFF, 3, fun _ b1 b2 => .andAAbsY (operandWord b1 b2)⟩,
  ⟨0x37, 0xFF, 2, fun _ b1 _ => .andAIndY b1⟩,
  ⟨0x38, 0xFF, 3, fun _ b1 b2 => .andDpImm b1 b2⟩,
  ⟨0x39, 0xFF, 1, fun _ _ _ => .andXY⟩,
  ⟨0x3A, 0xFF, 2, fun _ b1 _ => .incw b1⟩,
  ⟨0x3B, 0xFF, 2, fun _ b1 _ => .rolDpX b1⟩,
  ⟨0x3C, 0xFF, 1, fun _ _ _ => .rolA⟩,
  ⟨0x3D, 0xFF, 1, fun _ _ _ => .incX⟩,
  ⟨0x3E, 0xFF, 2, fun _ b1 _ => .cmpXDp b1⟩,
  ⟨0x3F, 0xFF, 3, fun _ b1 b2 => .call (operandWord b1 b2)⟩]

/-- The rows whose opcode pattern has high nibble 4 (spec/30_encoding.md R80, `opcode_table.json`). -/
def rows4x : List Row := [
  ⟨0x40, 0xFF, 1, fun _ _ _ => .setp⟩,
  ⟨0x44, 0xFF, 2, fun _ b1 _ => .eorADp b1⟩,
  ⟨0x45, 0xFF, 3, fun _ b1 b2 => .eorAAbs (operandWord b1 b2)⟩,
  ⟨0x46, 0xFF, 1, fun _ _ _ => .eorAXInd⟩,
  ⟨0x47, 0xFF, 2, fun _ b1 _ => .eorAIndX b1⟩,
  ⟨0x48, 0xFF, 2, fun _ b1 _ => .eorAImm b1⟩,
  ⟨0x49, 0xFF, 3, fun _ b1 b2 => .eorDpDp b1 b2⟩,
  ⟨0x4A, 0xFF, 3, fun _ b1 b2 => .and1CMem (memBitNumber (operandWord b1 b2)) (memBitAddress (operandWord b1 b2))⟩,
  ⟨0x4B, 0xFF, 2, fun _ b1 _ => .lsrDp b1⟩,
  ⟨0x4C, 0xFF, 3, fun _ b1 b2 => .lsrAbs (operandWord b1 b2)⟩,
  ⟨0x4D, 0xFF, 1, fun _ _ _ => .pushX⟩,
  ⟨0x4E, 0xFF, 3, fun _ b1 b2 => .tclr1 (operandWord b1 b2)⟩,
  ⟨0x4F, 0xFF, 2, fun _ b1 _ => .pcall b1⟩]

/-- The rows whose opcode pattern has high nibble 5 (spec/30_encoding.md R80, `opcode_table.json`). -/
def rows5x : List Row := [
  ⟨0x50, 0xFF, 2, fun _ b1 _ => .bvc b1⟩,
  ⟨0x54, 0xFF, 2, fun _ b1 _ => .eorADpX b1⟩,
  ⟨0x55, 0xFF, 3, fun _ b1 b2 => .eorAAbsX (operandWord b1 b2)⟩,
  ⟨0x56, 0xFF, 3, fun _ b1 b2 => .eorAAbsY (operandWord b1 b2)⟩,
  ⟨0x57, 0xFF, 2, fun _ b1 _ => .eorAIndY b1⟩,
  ⟨0x58, 0xFF, 3, fun _ b1 b2 => .eorDpImm b1 b2⟩,
  ⟨0x59, 0xFF, 1, fun _ _ _ => .eorXY⟩,
  ⟨0x5A, 0xFF, 2, fun _ b1 _ => .cmpw b1⟩,
  ⟨0x5B, 0xFF, 2, fun _ b1 _ => .lsrDpX b1⟩,
  ⟨0x5C, 0xFF, 1, fun _ _ _ => .lsrA⟩,
  ⟨0x5D, 0xFF, 1, fun _ _ _ => .movXA⟩,
  ⟨0x5E, 0xFF, 3, fun _ b1 b2 => .cmpYAbs (operandWord b1 b2)⟩,
  ⟨0x5F, 0xFF, 3, fun _ b1 b2 => .jmpAbs (operandWord b1 b2)⟩]

/-- The rows whose opcode pattern has high nibble 6 (spec/30_encoding.md R80, `opcode_table.json`). -/
def rows6x : List Row := [
  ⟨0x60, 0xFF, 1, fun _ _ _ => .clrc⟩,
  ⟨0x64, 0xFF, 2, fun _ b1 _ => .cmpADp b1⟩,
  ⟨0x65, 0xFF, 3, fun _ b1 b2 => .cmpAAbs (operandWord b1 b2)⟩,
  ⟨0x66, 0xFF, 1, fun _ _ _ => .cmpAXInd⟩,
  ⟨0x67, 0xFF, 2, fun _ b1 _ => .cmpAIndX b1⟩,
  ⟨0x68, 0xFF, 2, fun _ b1 _ => .cmpAImm b1⟩,
  ⟨0x69, 0xFF, 3, fun _ b1 b2 => .cmpDpDp b1 b2⟩,
  ⟨0x6A, 0xFF, 3, fun _ b1 b2 => .and1CNotMem (memBitNumber (operandWord b1 b2)) (memBitAddress (operandWord b1 b2))⟩,
  ⟨0x6B, 0xFF, 2, fun _ b1 _ => .rorDp b1⟩,
  ⟨0x6C, 0xFF, 3, fun _ b1 b2 => .rorAbs (operandWord b1 b2)⟩,
  ⟨0x6D, 0xFF, 1, fun _ _ _ => .pushY⟩,
  ⟨0x6E, 0xFF, 3, fun _ b1 b2 => .dbnzDp b1 b2⟩,
  ⟨0x6F, 0xFF, 1, fun _ _ _ => .ret⟩]

/-- The rows whose opcode pattern has high nibble 7 (spec/30_encoding.md R80, `opcode_table.json`). -/
def rows7x : List Row := [
  ⟨0x70, 0xFF, 2, fun _ b1 _ => .bvs b1⟩,
  ⟨0x74, 0xFF, 2, fun _ b1 _ => .cmpADpX b1⟩,
  ⟨0x75, 0xFF, 3, fun _ b1 b2 => .cmpAAbsX (operandWord b1 b2)⟩,
  ⟨0x76, 0xFF, 3, fun _ b1 b2 => .cmpAAbsY (operandWord b1 b2)⟩,
  ⟨0x77, 0xFF, 2, fun _ b1 _ => .cmpAIndY b1⟩,
  ⟨0x78, 0xFF, 3, fun _ b1 b2 => .cmpDpImm b1 b2⟩,
  ⟨0x79, 0xFF, 1, fun _ _ _ => .cmpXY⟩,
  ⟨0x7A, 0xFF, 2, fun _ b1 _ => .addw b1⟩,
  ⟨0x7B, 0xFF, 2, fun _ b1 _ => .rorDpX b1⟩,
  ⟨0x7C, 0xFF, 1, fun _ _ _ => .rorA⟩,
  ⟨0x7D, 0xFF, 1, fun _ _ _ => .movAX⟩,
  ⟨0x7E, 0xFF, 2, fun _ b1 _ => .cmpYDp b1⟩,
  ⟨0x7F, 0xFF, 1, fun _ _ _ => .reti⟩]

/-- The rows whose opcode pattern has high nibble 8 (spec/30_encoding.md R80, `opcode_table.json`). -/
def rows8x : List Row := [
  ⟨0x80, 0xFF, 1, fun _ _ _ => .setc⟩,
  ⟨0x84, 0xFF, 2, fun _ b1 _ => .adcADp b1⟩,
  ⟨0x85, 0xFF, 3, fun _ b1 b2 => .adcAAbs (operandWord b1 b2)⟩,
  ⟨0x86, 0xFF, 1, fun _ _ _ => .adcAXInd⟩,
  ⟨0x87, 0xFF, 2, fun _ b1 _ => .adcAIndX b1⟩,
  ⟨0x88, 0xFF, 2, fun _ b1 _ => .adcAImm b1⟩,
  ⟨0x89, 0xFF, 3, fun _ b1 b2 => .adcDpDp b1 b2⟩,
  ⟨0x8A, 0xFF, 3, fun _ b1 b2 => .eor1CMem (memBitNumber (operandWord b1 b2)) (memBitAddress (operandWord b1 b2))⟩,
  ⟨0x8B, 0xFF, 2, fun _ b1 _ => .decDp b1⟩,
  ⟨0x8C, 0xFF, 3, fun _ b1 b2 => .decAbs (operandWord b1 b2)⟩,
  ⟨0x8D, 0xFF, 2, fun _ b1 _ => .movYImm b1⟩,
  ⟨0x8E, 0xFF, 1, fun _ _ _ => .popPsw⟩,
  ⟨0x8F, 0xFF, 3, fun _ b1 b2 => .movDpImm b1 b2⟩]

/-- The rows whose opcode pattern has high nibble 9 (spec/30_encoding.md R80, `opcode_table.json`). -/
def rows9x : List Row := [
  ⟨0x90, 0xFF, 2, fun _ b1 _ => .bcc b1⟩,
  ⟨0x94, 0xFF, 2, fun _ b1 _ => .adcADpX b1⟩,
  ⟨0x95, 0xFF, 3, fun _ b1 b2 => .adcAAbsX (operandWord b1 b2)⟩,
  ⟨0x96, 0xFF, 3, fun _ b1 b2 => .adcAAbsY (operandWord b1 b2)⟩,
  ⟨0x97, 0xFF, 2, fun _ b1 _ => .adcAIndY b1⟩,
  ⟨0x98, 0xFF, 3, fun _ b1 b2 => .adcDpImm b1 b2⟩,
  ⟨0x99, 0xFF, 1, fun _ _ _ => .adcXY⟩,
  ⟨0x9A, 0xFF, 2, fun _ b1 _ => .subw b1⟩,
  ⟨0x9B, 0xFF, 2, fun _ b1 _ => .decDpX b1⟩,
  ⟨0x9C, 0xFF, 1, fun _ _ _ => .decA⟩,
  ⟨0x9D, 0xFF, 1, fun _ _ _ => .movXSp⟩,
  ⟨0x9E, 0xFF, 1, fun _ _ _ => .div⟩,
  ⟨0x9F, 0xFF, 1, fun _ _ _ => .xcn⟩]

/-- The rows whose opcode pattern has high nibble A (spec/30_encoding.md R80, `opcode_table.json`). -/
def rowsAx : List Row := [
  ⟨0xA0, 0xFF, 1, fun _ _ _ => .ei⟩,
  ⟨0xA4, 0xFF, 2, fun _ b1 _ => .sbcADp b1⟩,
  ⟨0xA5, 0xFF, 3, fun _ b1 b2 => .sbcAAbs (operandWord b1 b2)⟩,
  ⟨0xA6, 0xFF, 1, fun _ _ _ => .sbcAXInd⟩,
  ⟨0xA7, 0xFF, 2, fun _ b1 _ => .sbcAIndX b1⟩,
  ⟨0xA8, 0xFF, 2, fun _ b1 _ => .sbcAImm b1⟩,
  ⟨0xA9, 0xFF, 3, fun _ b1 b2 => .sbcDpDp b1 b2⟩,
  ⟨0xAA, 0xFF, 3, fun _ b1 b2 => .mov1CMem (memBitNumber (operandWord b1 b2)) (memBitAddress (operandWord b1 b2))⟩,
  ⟨0xAB, 0xFF, 2, fun _ b1 _ => .incDp b1⟩,
  ⟨0xAC, 0xFF, 3, fun _ b1 b2 => .incAbs (operandWord b1 b2)⟩,
  ⟨0xAD, 0xFF, 2, fun _ b1 _ => .cmpYImm b1⟩,
  ⟨0xAE, 0xFF, 1, fun _ _ _ => .popA⟩,
  ⟨0xAF, 0xFF, 1, fun _ _ _ => .movXIncA⟩]

/-- The rows whose opcode pattern has high nibble B (spec/30_encoding.md R80, `opcode_table.json`). -/
def rowsBx : List Row := [
  ⟨0xB0, 0xFF, 2, fun _ b1 _ => .bcs b1⟩,
  ⟨0xB4, 0xFF, 2, fun _ b1 _ => .sbcADpX b1⟩,
  ⟨0xB5, 0xFF, 3, fun _ b1 b2 => .sbcAAbsX (operandWord b1 b2)⟩,
  ⟨0xB6, 0xFF, 3, fun _ b1 b2 => .sbcAAbsY (operandWord b1 b2)⟩,
  ⟨0xB7, 0xFF, 2, fun _ b1 _ => .sbcAIndY b1⟩,
  ⟨0xB8, 0xFF, 3, fun _ b1 b2 => .sbcDpImm b1 b2⟩,
  ⟨0xB9, 0xFF, 1, fun _ _ _ => .sbcXY⟩,
  ⟨0xBA, 0xFF, 2, fun _ b1 _ => .movwYaDp b1⟩,
  ⟨0xBB, 0xFF, 2, fun _ b1 _ => .incDpX b1⟩,
  ⟨0xBC, 0xFF, 1, fun _ _ _ => .incA⟩,
  ⟨0xBD, 0xFF, 1, fun _ _ _ => .movSpX⟩,
  ⟨0xBE, 0xFF, 1, fun _ _ _ => .das⟩,
  ⟨0xBF, 0xFF, 1, fun _ _ _ => .movAXInc⟩]

/-- The rows whose opcode pattern has high nibble C (spec/30_encoding.md R80, `opcode_table.json`). -/
def rowsCx : List Row := [
  ⟨0xC0, 0xFF, 1, fun _ _ _ => .di⟩,
  ⟨0xC4, 0xFF, 2, fun _ b1 _ => .movDpA b1⟩,
  ⟨0xC5, 0xFF, 3, fun _ b1 b2 => .movAbsA (operandWord b1 b2)⟩,
  ⟨0xC6, 0xFF, 1, fun _ _ _ => .movXIndA⟩,
  ⟨0xC7, 0xFF, 2, fun _ b1 _ => .movIndXA b1⟩,
  ⟨0xC8, 0xFF, 2, fun _ b1 _ => .cmpXImm b1⟩,
  ⟨0xC9, 0xFF, 3, fun _ b1 b2 => .movAbsX (operandWord b1 b2)⟩,
  ⟨0xCA, 0xFF, 3, fun _ b1 b2 => .mov1MemC (memBitNumber (operandWord b1 b2)) (memBitAddress (operandWord b1 b2))⟩,
  ⟨0xCB, 0xFF, 2, fun _ b1 _ => .movDpY b1⟩,
  ⟨0xCC, 0xFF, 3, fun _ b1 b2 => .movAbsY (operandWord b1 b2)⟩,
  ⟨0xCD, 0xFF, 2, fun _ b1 _ => .movXImm b1⟩,
  ⟨0xCE, 0xFF, 1, fun _ _ _ => .popX⟩,
  ⟨0xCF, 0xFF, 1, fun _ _ _ => .mul⟩]

/-- The rows whose opcode pattern has high nibble D (spec/30_encoding.md R80, `opcode_table.json`). -/
def rowsDx : List Row := [
  ⟨0xD0, 0xFF, 2, fun _ b1 _ => .bne b1⟩,
  ⟨0xD4, 0xFF, 2, fun _ b1 _ => .movDpXA b1⟩,
  ⟨0xD5, 0xFF, 3, fun _ b1 b2 => .movAbsXA (operandWord b1 b2)⟩,
  ⟨0xD6, 0xFF, 3, fun _ b1 b2 => .movAbsYA (operandWord b1 b2)⟩,
  ⟨0xD7, 0xFF, 2, fun _ b1 _ => .movIndYA b1⟩,
  ⟨0xD8, 0xFF, 2, fun _ b1 _ => .movDpX b1⟩,
  ⟨0xD9, 0xFF, 2, fun _ b1 _ => .movDpYX b1⟩,
  ⟨0xDA, 0xFF, 2, fun _ b1 _ => .movwDpYa b1⟩,
  ⟨0xDB, 0xFF, 2, fun _ b1 _ => .movDpXY b1⟩,
  ⟨0xDC, 0xFF, 1, fun _ _ _ => .decY⟩,
  ⟨0xDD, 0xFF, 1, fun _ _ _ => .movAY⟩,
  ⟨0xDE, 0xFF, 3, fun _ b1 b2 => .cbneDpX b1 b2⟩,
  ⟨0xDF, 0xFF, 1, fun _ _ _ => .daa⟩]

/-- The rows whose opcode pattern has high nibble E (spec/30_encoding.md R80, `opcode_table.json`). -/
def rowsEx : List Row := [
  ⟨0xE0, 0xFF, 1, fun _ _ _ => .clrv⟩,
  ⟨0xE4, 0xFF, 2, fun _ b1 _ => .movADp b1⟩,
  ⟨0xE5, 0xFF, 3, fun _ b1 b2 => .movAAbs (operandWord b1 b2)⟩,
  ⟨0xE6, 0xFF, 1, fun _ _ _ => .movAXInd⟩,
  ⟨0xE7, 0xFF, 2, fun _ b1 _ => .movAIndX b1⟩,
  ⟨0xE8, 0xFF, 2, fun _ b1 _ => .movAImm b1⟩,
  ⟨0xE9, 0xFF, 3, fun _ b1 b2 => .movXAbs (operandWord b1 b2)⟩,
  ⟨0xEA, 0xFF, 3, fun _ b1 b2 => .not1 (memBitNumber (operandWord b1 b2)) (memBitAddress (operandWord b1 b2))⟩,
  ⟨0xEB, 0xFF, 2, fun _ b1 _ => .movYDp b1⟩,
  ⟨0xEC, 0xFF, 3, fun _ b1 b2 => .movYAbs (operandWord b1 b2)⟩,
  ⟨0xED, 0xFF, 1, fun _ _ _ => .notc⟩,
  ⟨0xEE, 0xFF, 1, fun _ _ _ => .popY⟩,
  ⟨0xEF, 0xFF, 1, fun _ _ _ => .sleep⟩]

/-- The rows whose opcode pattern has high nibble F (spec/30_encoding.md R80, `opcode_table.json`). -/
def rowsFx : List Row := [
  ⟨0xF0, 0xFF, 2, fun _ b1 _ => .beq b1⟩,
  ⟨0xF4, 0xFF, 2, fun _ b1 _ => .movADpX b1⟩,
  ⟨0xF5, 0xFF, 3, fun _ b1 b2 => .movAAbsX (operandWord b1 b2)⟩,
  ⟨0xF6, 0xFF, 3, fun _ b1 b2 => .movAAbsY (operandWord b1 b2)⟩,
  ⟨0xF7, 0xFF, 2, fun _ b1 _ => .movAIndY b1⟩,
  ⟨0xF8, 0xFF, 2, fun _ b1 _ => .movXDp b1⟩,
  ⟨0xF9, 0xFF, 2, fun _ b1 _ => .movXDpY b1⟩,
  ⟨0xFA, 0xFF, 3, fun _ b1 b2 => .movDpDp b1 b2⟩,
  ⟨0xFB, 0xFF, 2, fun _ b1 _ => .movYDpX b1⟩,
  ⟨0xFC, 0xFF, 1, fun _ _ _ => .incY⟩,
  ⟨0xFD, 0xFF, 1, fun _ _ _ => .movYA⟩,
  ⟨0xFE, 0xFF, 2, fun _ b1 _ => .dbnzY b1⟩,
  ⟨0xFF, 0xFF, 1, fun _ _ _ => .stop⟩]

/-- The whole opcode table, in the table's order. -/
def opcodeRows : List Row :=
  rows0x ++ rows1x ++ rows2x ++ rows3x ++ rows4x ++ rows5x ++ rows6x ++ rows7x ++
  rows8x ++ rows9x ++ rowsAx ++ rowsBx ++ rowsCx ++ rowsDx ++ rowsEx ++ rowsFx

/-- The row that selects an opcode byte, if there is one. -/
def rowOf (op : Byte) : Option Row := opcodeRows.find? (fun r => r.selects op)

/-- The instruction of an opcode byte and the two bytes after it in the instruction stream. -/
def decodeBytes (op b1 b2 : Byte) : Option Instr := (rowOf op).map (fun r => r.build op b1 b2)

/-- Why bytes decode to no instruction. -/
inductive DecodeError where
  /-- there is no byte at all -/
  | noBytes
  /-- no row of the table selects the opcode byte (no byte does this: R80 assigns all 256) -/
  | noRow (op : Byte)
  /-- the bytes end before the instruction's operands do -/
  | truncated (op : Byte)
deriving DecidableEq, Repr

/-- The instruction at the front of a byte list, and the bytes after it. -/
def decode (bytes : List Byte) : Except DecodeError (Instr × List Byte) :=
  match bytes with
  | [] => .error .noBytes
  | op :: rest =>
    match rowOf op with
    | none => .error (.noRow op)
    | some r =>
      if rest.length + 1 < r.length then .error (.truncated op)
      else .ok (r.build op (rest.getD 0 0) (rest.getD 1 0), rest.drop (r.length - 1))

/-- Byte `k` of an instruction whose bits are `w`, byte 0 first, every bit from `nbits` up being 0. -/
def tableByte (nbits w k : Nat) : Byte := BitVec.ofNat 8 ((w % 2 ^ nbits) / 2 ^ (8 * k))

/-- The three bytes of an instruction of the opcode table, the first at the lowest address. -/
def tableBytes (nbits w : Nat) : List Byte := [tableByte nbits w 0, tableByte nbits w 1, tableByte nbits w 2]

/-- The instruction the decoder reads from an instruction whose bits are `w`, numbered as the opcode table numbers
them. -/
def decodeTableWord (nbits w : Nat) : Option Instr :=
  match decode (tableBytes nbits w) with
  | .ok (i, _) => some i
  | .error _ => none

/-! ## The encoder -/

/-- The low byte of an operand word comes first in the stream (R75). -/
def encodeWord (w : Word) : List Byte := [w.extractLsb' 0 8, w.extractLsb' 8 8]

/-- A mem.bit operand word: the bit number over the 13-bit address (R77). -/
def encodeMemBit (bit : Nat) (addr : BitVec 13) : List Byte :=
  encodeWord (BitVec.ofNat 3 bit ++ addr : BitVec (3 + 13))

/-- An opcode byte with a bit number in its bits 7..5 (R78). -/
def encodeBitOp (pattern : Byte) (bit : Nat) : Byte := pattern ||| BitVec.ofNat 8 (32 * bit)

/-- The bytes of an instruction, in stream order. -/
def encode (i : Instr) : List Byte :=
  match i with
  | .nop => [0x00]
  | .tcall n => [0x01 ||| BitVec.ofNat 8 (16 * n)]
  | .set1 bit dd => [encodeBitOp 0x02 bit, dd]
  | .bbs bit dd rr => [encodeBitOp 0x03 bit, dd, rr]
  | .orADp dd => [0x04, dd]
  | .orAAbs addr => 0x05 :: encodeWord addr
  | .orAXInd => [0x06]
  | .orAIndX dd => [0x07, dd]
  | .orAImm ii => [0x08, ii]
  | .orDpDp ss dd => [0x09, ss, dd]
  | .or1CMem bit addr => 0x0A :: encodeMemBit bit addr
  | .aslDp dd => [0x0B, dd]
  | .aslAbs addr => 0x0C :: encodeWord addr
  | .pushPsw => [0x0D]
  | .tset1 addr => 0x0E :: encodeWord addr
  | .brk => [0x0F]
  | .bpl rr => [0x10, rr]
  | .clr1 bit dd => [encodeBitOp 0x12 bit, dd]
  | .bbc bit dd rr => [encodeBitOp 0x13 bit, dd, rr]
  | .orADpX dd => [0x14, dd]
  | .orAAbsX addr => 0x15 :: encodeWord addr
  | .orAAbsY addr => 0x16 :: encodeWord addr
  | .orAIndY dd => [0x17, dd]
  | .orDpImm ii dd => [0x18, ii, dd]
  | .orXY => [0x19]
  | .decw dd => [0x1A, dd]
  | .aslDpX dd => [0x1B, dd]
  | .aslA => [0x1C]
  | .decX => [0x1D]
  | .cmpXAbs addr => 0x1E :: encodeWord addr
  | .jmpAbsXInd addr => 0x1F :: encodeWord addr
  | .clrp => [0x20]
  | .andADp dd => [0x24, dd]
  | .andAAbs addr => 0x25 :: encodeWord addr
  | .andAXInd => [0x26]
  | .andAIndX dd => [0x27, dd]
  | .andAImm ii => [0x28, ii]
  | .andDpDp ss dd => [0x29, ss, dd]
  | .or1CNotMem bit addr => 0x2A :: encodeMemBit bit addr
  | .rolDp dd => [0x2B, dd]
  | .rolAbs addr => 0x2C :: encodeWord addr
  | .pushA => [0x2D]
  | .cbneDp dd rr => [0x2E, dd, rr]
  | .bra rr => [0x2F, rr]
  | .bmi rr => [0x30, rr]
  | .andADpX dd => [0x34, dd]
  | .andAAbsX addr => 0x35 :: encodeWord addr
  | .andAAbsY addr => 0x36 :: encodeWord addr
  | .andAIndY dd => [0x37, dd]
  | .andDpImm ii dd => [0x38, ii, dd]
  | .andXY => [0x39]
  | .incw dd => [0x3A, dd]
  | .rolDpX dd => [0x3B, dd]
  | .rolA => [0x3C]
  | .incX => [0x3D]
  | .cmpXDp dd => [0x3E, dd]
  | .call addr => 0x3F :: encodeWord addr
  | .setp => [0x40]
  | .eorADp dd => [0x44, dd]
  | .eorAAbs addr => 0x45 :: encodeWord addr
  | .eorAXInd => [0x46]
  | .eorAIndX dd => [0x47, dd]
  | .eorAImm ii => [0x48, ii]
  | .eorDpDp ss dd => [0x49, ss, dd]
  | .and1CMem bit addr => 0x4A :: encodeMemBit bit addr
  | .lsrDp dd => [0x4B, dd]
  | .lsrAbs addr => 0x4C :: encodeWord addr
  | .pushX => [0x4D]
  | .tclr1 addr => 0x4E :: encodeWord addr
  | .pcall uu => [0x4F, uu]
  | .bvc rr => [0x50, rr]
  | .eorADpX dd => [0x54, dd]
  | .eorAAbsX addr => 0x55 :: encodeWord addr
  | .eorAAbsY addr => 0x56 :: encodeWord addr
  | .eorAIndY dd => [0x57, dd]
  | .eorDpImm ii dd => [0x58, ii, dd]
  | .eorXY => [0x59]
  | .cmpw dd => [0x5A, dd]
  | .lsrDpX dd => [0x5B, dd]
  | .lsrA => [0x5C]
  | .movXA => [0x5D]
  | .cmpYAbs addr => 0x5E :: encodeWord addr
  | .jmpAbs addr => 0x5F :: encodeWord addr
  | .clrc => [0x60]
  | .cmpADp dd => [0x64, dd]
  | .cmpAAbs addr => 0x65 :: encodeWord addr
  | .cmpAXInd => [0x66]
  | .cmpAIndX dd => [0x67, dd]
  | .cmpAImm ii => [0x68, ii]
  | .cmpDpDp ss dd => [0x69, ss, dd]
  | .and1CNotMem bit addr => 0x6A :: encodeMemBit bit addr
  | .rorDp dd => [0x6B, dd]
  | .rorAbs addr => 0x6C :: encodeWord addr
  | .pushY => [0x6D]
  | .dbnzDp dd rr => [0x6E, dd, rr]
  | .ret => [0x6F]
  | .bvs rr => [0x70, rr]
  | .cmpADpX dd => [0x74, dd]
  | .cmpAAbsX addr => 0x75 :: encodeWord addr
  | .cmpAAbsY addr => 0x76 :: encodeWord addr
  | .cmpAIndY dd => [0x77, dd]
  | .cmpDpImm ii dd => [0x78, ii, dd]
  | .cmpXY => [0x79]
  | .addw dd => [0x7A, dd]
  | .rorDpX dd => [0x7B, dd]
  | .rorA => [0x7C]
  | .movAX => [0x7D]
  | .cmpYDp dd => [0x7E, dd]
  | .reti => [0x7F]
  | .setc => [0x80]
  | .adcADp dd => [0x84, dd]
  | .adcAAbs addr => 0x85 :: encodeWord addr
  | .adcAXInd => [0x86]
  | .adcAIndX dd => [0x87, dd]
  | .adcAImm ii => [0x88, ii]
  | .adcDpDp ss dd => [0x89, ss, dd]
  | .eor1CMem bit addr => 0x8A :: encodeMemBit bit addr
  | .decDp dd => [0x8B, dd]
  | .decAbs addr => 0x8C :: encodeWord addr
  | .movYImm ii => [0x8D, ii]
  | .popPsw => [0x8E]
  | .movDpImm ii dd => [0x8F, ii, dd]
  | .bcc rr => [0x90, rr]
  | .adcADpX dd => [0x94, dd]
  | .adcAAbsX addr => 0x95 :: encodeWord addr
  | .adcAAbsY addr => 0x96 :: encodeWord addr
  | .adcAIndY dd => [0x97, dd]
  | .adcDpImm ii dd => [0x98, ii, dd]
  | .adcXY => [0x99]
  | .subw dd => [0x9A, dd]
  | .decDpX dd => [0x9B, dd]
  | .decA => [0x9C]
  | .movXSp => [0x9D]
  | .div => [0x9E]
  | .xcn => [0x9F]
  | .ei => [0xA0]
  | .sbcADp dd => [0xA4, dd]
  | .sbcAAbs addr => 0xA5 :: encodeWord addr
  | .sbcAXInd => [0xA6]
  | .sbcAIndX dd => [0xA7, dd]
  | .sbcAImm ii => [0xA8, ii]
  | .sbcDpDp ss dd => [0xA9, ss, dd]
  | .mov1CMem bit addr => 0xAA :: encodeMemBit bit addr
  | .incDp dd => [0xAB, dd]
  | .incAbs addr => 0xAC :: encodeWord addr
  | .cmpYImm ii => [0xAD, ii]
  | .popA => [0xAE]
  | .movXIncA => [0xAF]
  | .bcs rr => [0xB0, rr]
  | .sbcADpX dd => [0xB4, dd]
  | .sbcAAbsX addr => 0xB5 :: encodeWord addr
  | .sbcAAbsY addr => 0xB6 :: encodeWord addr
  | .sbcAIndY dd => [0xB7, dd]
  | .sbcDpImm ii dd => [0xB8, ii, dd]
  | .sbcXY => [0xB9]
  | .movwYaDp dd => [0xBA, dd]
  | .incDpX dd => [0xBB, dd]
  | .incA => [0xBC]
  | .movSpX => [0xBD]
  | .das => [0xBE]
  | .movAXInc => [0xBF]
  | .di => [0xC0]
  | .movDpA dd => [0xC4, dd]
  | .movAbsA addr => 0xC5 :: encodeWord addr
  | .movXIndA => [0xC6]
  | .movIndXA dd => [0xC7, dd]
  | .cmpXImm ii => [0xC8, ii]
  | .movAbsX addr => 0xC9 :: encodeWord addr
  | .mov1MemC bit addr => 0xCA :: encodeMemBit bit addr
  | .movDpY dd => [0xCB, dd]
  | .movAbsY addr => 0xCC :: encodeWord addr
  | .movXImm ii => [0xCD, ii]
  | .popX => [0xCE]
  | .mul => [0xCF]
  | .bne rr => [0xD0, rr]
  | .movDpXA dd => [0xD4, dd]
  | .movAbsXA addr => 0xD5 :: encodeWord addr
  | .movAbsYA addr => 0xD6 :: encodeWord addr
  | .movIndYA dd => [0xD7, dd]
  | .movDpX dd => [0xD8, dd]
  | .movDpYX dd => [0xD9, dd]
  | .movwDpYa dd => [0xDA, dd]
  | .movDpXY dd => [0xDB, dd]
  | .decY => [0xDC]
  | .movAY => [0xDD]
  | .cbneDpX dd rr => [0xDE, dd, rr]
  | .daa => [0xDF]
  | .clrv => [0xE0]
  | .movADp dd => [0xE4, dd]
  | .movAAbs addr => 0xE5 :: encodeWord addr
  | .movAXInd => [0xE6]
  | .movAIndX dd => [0xE7, dd]
  | .movAImm ii => [0xE8, ii]
  | .movXAbs addr => 0xE9 :: encodeWord addr
  | .not1 bit addr => 0xEA :: encodeMemBit bit addr
  | .movYDp dd => [0xEB, dd]
  | .movYAbs addr => 0xEC :: encodeWord addr
  | .notc => [0xED]
  | .popY => [0xEE]
  | .sleep => [0xEF]
  | .beq rr => [0xF0, rr]
  | .movADpX dd => [0xF4, dd]
  | .movAAbsX addr => 0xF5 :: encodeWord addr
  | .movAAbsY addr => 0xF6 :: encodeWord addr
  | .movAIndY dd => [0xF7, dd]
  | .movXDp dd => [0xF8, dd]
  | .movXDpY dd => [0xF9, dd]
  | .movDpDp ss dd => [0xFA, ss, dd]
  | .movYDpX dd => [0xFB, dd]
  | .incY => [0xFC]
  | .movYA => [0xFD]
  | .dbnzY rr => [0xFE, rr]
  | .stop => [0xFF]

end Sys2Proof
end

