-- ==== Sys2Proof/Machine/Fetch.lean ====
section
/-! DEFINITION. What the step reads at PC (spec/40_addressing.md R86 to R88, spec/30_encoding.md R81), the event of an
unrecognized opcode (R29), and where an instruction's bytes are placed for the next step. -/

namespace Sys2Proof.Machine

/-- The instruction-stream byte `k` places after PC, modulo 2^16 (R87). -/
def State.streamByte (s : State) (k : Nat) : Byte := s.peek (s.pc + BitVec.ofNat 16 k).toNat

/-- The instruction at PC: the decoding of the opcode byte and the two bytes after it; none where the opcode byte is
not in RECOGNIZED (R80, R81, R86). -/
def State.fetched (s : State) : Option Instr :=
  if recognizes s.params (s.streamByte 0) then decodeBytes (s.streamByte 0) (s.streamByte 1) (s.streamByte 2)
  else none

/-- The event `UnknownOpcode(op)` the next step emits, if it emits one (R29, R81, log entry 5). It is no state. -/
def State.unknownOpcode (s : State) : Option Byte :=
  match s.fetched with
  | some _ => none
  | none => some (s.streamByte 0)

/-- A byte put into memory from outside, without an access of the core. -/
def State.place (s : State) (addr : Nat) (v : Byte) : State := { s with mem := s.mem.store addr v }

/-- The bytes of an instruction of the opcode table put where the next step fetches them. -/
def State.placeInstr (s : State) (nbits w : Nat) : State :=
  ((s.place s.pc.toNat (tableByte nbits w 0)).place (s.pc + 1).toNat (tableByte nbits w 1)).place (s.pc + 2).toNat
    (tableByte nbits w 2)

end Sys2Proof.Machine
end

