-- ==== Sys2Proof/Machine/Step.lean ====
section
/-! DEFINITION. One step of the machine (spec/40_addressing.md R86). -/

namespace Sys2Proof.Machine

/-- `step()`: the opcode byte is fetched and its instruction executed; an unrecognized opcode byte is skipped (R81). -/
def step (s : State) : Host.Outcome State Fault Refusal :=
  match s.fetched with
  | some i => exec i s.fetch8
  | none => .next s.fetch8

/-- `s` with the instruction whose bits are `w` stored at PC, where the next step fetches it (log entry 6). -/
def State.withFetchWord (s : State) (nbits w : Nat) : State := s.placeInstr nbits w

end Sys2Proof.Machine
end

