-- ==== Sys2Proof/Machine/Loader.lean ====
section
/-! DEFINITION. The host's load of a snapshot before the first step (spec/70_reset_and_hazards.md R351,
spec/20_memory.md R39, spec/10_state.md R33). No instruction does any of this. -/

namespace Sys2Proof.Machine

/-- The register values a snapshot supplies (R351). -/
structure Snapshot where
  pc : Word
  a : Byte
  x : Byte
  y : Byte
  psw : Byte
  sp : Byte
deriving DecidableEq, Repr

/-- `loadRegisters(other)`, a full-value copy (R33). -/
def State.loadRegisters (s : State) (r : Snapshot) : State :=
  { s with pc := r.pc, a := r.a, x := r.x, y := r.y, psw := r.psw, sp := r.sp }

/-- `writeBytes(addr, bytes)`: byte `i` goes to `addr + i` through MemWrite (R39). -/
def State.writeBytes (s : State) (addr : Nat) (bytes : List Byte) : State :=
  match bytes with
  | [] => s
  | b :: bs => (s.memWrite addr b).writeBytes (addr + 1) bs

/-- `load(pc, a, x, y, psw, sp, buffer)`: the buffer goes to address 0 (R351). -/
def State.loadSnapshot (s : State) (r : Snapshot) (buffer : List Byte) : State :=
  (s.loadRegisters r).writeBytes 0 buffer

end Sys2Proof.Machine
end

