-- ==== Sys2Proof/Safety.lean ====
section
/-! DEFINITION. The terms the statements about the machine are written in: the invariant every step keeps; PSW written
flag by flag; the arithmetic of the spec on plain numbers; and, for the families whose instructions differ only in
their operand form, the list of the forms with the constructor of `Instr` each one is. -/

namespace Sys2Proof.Machine

/-! ## The invariant, and what a store leaves -/

/-- Memory is in canonical form, and `last_addr` is an address a byte access can have, 0x0000 to 0x10000 (R28, R34). -/
abbrev State.Inv (s : State) : Prop := s.mem.wf = true ∧ s.lastAddr ≤ 0x10000

/-- From `s` to `t` the byte at `addr` becomes `v` and every other address reads as before. -/
def Stored (s t : State) (addr : Nat) (v : Byte) : Prop := ∀ k, t.peek k = if k = addr then v else s.peek k

/-- From `s` to `t` the byte at `addr1` becomes `v1`, then the one at `addr2` becomes `v2`, and every other address
reads as before. -/
def Stored2 (s t : State) (addr1 : Nat) (v1 : Byte) (addr2 : Nat) (v2 : Byte) : Prop :=
  ∀ k, t.peek k = if k = addr2 then v2 else if k = addr1 then v1 else s.peek k

/-! ## The stack (R252, R254) -/

/-- The page-1 address the `k`-th byte that an instruction pushes goes to (R14, R252). -/
def State.pushSlot (s : State) (k : Nat) : Nat :=
  match s.params.stackDiscipline with
  | .document => 0x100 + (s.sp.toNat + 0x100 - k) % 0x100
  | .chip => 0x100 + (s.sp.toNat + 0x101 - k) % 0x100

/-- The byte of a return address that is pushed first: the low one under `document`, the high one under `chip`
(R254). -/
def State.firstPushed (s : State) (ret : Word) : Byte :=
  match s.params.stackDiscipline with
  | .document => BitVec.ofNat 8 ret.toNat
  | .chip => BitVec.ofNat 8 (ret.toNat / 0x100)

/-- The byte of a return address that is pushed second (R254). -/
def State.secondPushed (s : State) (ret : Word) : Byte :=
  match s.params.stackDiscipline with
  | .document => BitVec.ofNat 8 (ret.toNat / 0x100)
  | .chip => BitVec.ofNat 8 ret.toNat

/-- From `s` to `t` the two bytes of a return address were pushed, and every other byte of memory reads as before. -/
def PushedPC (s t : State) (ret : Word) : Prop :=
  Stored2 s t (s.pushSlot 1) (s.firstPushed ret) (s.pushSlot 2) (s.secondPushed ret)

/-- The page-1 address of the `k`-th byte that an instruction pops (R253). -/
def State.popSlot (s : State) (k : Nat) : Nat := 0x100 + (s.sp.toNat + k) % 0x100

/-! ## PSW, flag by flag (R16) -/

/-- The status byte with the given flags, in the order `NVPBHIZC`. -/
def pswOf (n v p b h i z c : Bool) : Byte :=
  (BitVec.ofBool n ++ BitVec.ofBool v ++ BitVec.ofBool p ++ BitVec.ofBool b ++ BitVec.ofBool h ++ BitVec.ofBool i ++
    BitVec.ofBool z ++ BitVec.ofBool c : BitVec (1 + 1 + 1 + 1 + 1 + 1 + 1 + 1))

/-- PSW with N and Z as given and every other flag as it was. -/
def State.pswNZ (s : State) (n z : Bool) : Byte :=
  pswOf n (s.flag .v) (s.flag .p) (s.flag .b) (s.flag .h) (s.flag .i) z (s.flag .c)

/-- PSW with N, Z and C as given and every other flag as it was. -/
def State.pswNZC (s : State) (n z c : Bool) : Byte :=
  pswOf n (s.flag .v) (s.flag .p) (s.flag .b) (s.flag .h) (s.flag .i) z c

/-- PSW with N, V, Z and C as given and every other flag as it was. -/
def State.pswNVZC (s : State) (n v z c : Bool) : Byte :=
  pswOf n v (s.flag .p) (s.flag .b) (s.flag .h) (s.flag .i) z c

/-- PSW with N, V, H, Z and C as given and every other flag as it was. -/
def State.pswNVHZC (s : State) (n v h z c : Bool) : Byte :=
  pswOf n v (s.flag .p) (s.flag .b) h (s.flag .i) z c

/-- PSW with N and Z taken from a byte (R109) and every other flag as it was. -/
def State.pswFrom8 (s : State) (v : Byte) : Byte := s.pswNZ (0x80 ≤ v.toNat) (v.toNat == 0)

/-- PSW with N and Z taken from a word (R223) and every other flag as it was. -/
def State.pswFrom16 (s : State) (w : Word) : Byte := s.pswNZ (0x8000 ≤ w.toNat) (w.toNat == 0)

/-! ## The arithmetic of R110 to R113, on numbers -/

/-- The carry flag as a number. -/
def State.carry (s : State) : Nat := (s.flag .c).toNat

/-- `S = v1 + v2 + c` (R111). -/
def State.fullSum (s : State) (v1 v2 : Byte) : Nat := v1.toNat + v2.toNat + s.carry

/-- `SV` (R111). -/
def State.rangeSum (s : State) (v1 v2 : Byte) : Int :=
  if s.params.overflow8 = .signedOperands then v1.toInt + v2.toInt + s.carry else s.fullSum v1 v2

/-- `R = v1 - v2 + (1 - c)` (R112). -/
def State.fullDiff (s : State) (v1 v2 : Byte) : Int := (v1.toNat : Int) - v2.toNat + (1 - s.carry)

/-- `RV` (R112). -/
def State.rangeDiff (s : State) (v1 v2 : Byte) : Int :=
  if s.params.overflow8 = .signedOperands then v1.toInt - v2.toInt + (1 - s.carry) else s.fullDiff v1 v2

/-- `(v1 ^ v2 ^ r) & 0x10` is not zero, on numbers (R111, R112). -/
def nibbleCarry (v1 v2 : Byte) (r : Nat) : Bool := ((v1.toNat ^^^ v2.toNat ^^^ r) &&& 0x10) != 0

/-- PSW after ADC8 (R111). -/
def State.pswAdc (s : State) (v1 v2 : Byte) : Byte :=
  s.pswNVHZC (0x80 ≤ s.fullSum v1 v2 % 0x100) (s.rangeSum v1 v2 < -127 || 127 < s.rangeSum v1 v2)
    (nibbleCarry v1 v2 (s.fullSum v1 v2)) (s.fullSum v1 v2 % 0x100 == 0) (0xFF < s.fullSum v1 v2)

/-- `R16 = R mod 2^16` (R112). -/
def State.diff16 (s : State) (v1 v2 : Byte) : Nat := (s.fullDiff v1 v2 % 0x10000).toNat

/-- PSW after SBC8 (R112). -/
def State.pswSbc (s : State) (v1 v2 : Byte) : Byte :=
  s.pswNVHZC (0x80 ≤ s.diff16 v1 v2 % 0x100) (s.rangeDiff v1 v2 < -127 || 127 < s.rangeDiff v1 v2)
    (nibbleCarry v1 v2 (s.diff16 v1 v2)) (s.diff16 v1 v2 % 0x100 == 0) (s.diff16 v1 v2 / 0x100 == 0)

/-- PSW after CMP8 (R113): C is `v1 >= v2`, Z is `v1 = v2`. -/
def State.pswCmp (s : State) (v1 v2 : Byte) : Byte :=
  s.pswNVZC (0x80 ≤ (v1.toNat + 0x100 - v2.toNat) % 0x100)
    ((v1.toNat : Int) - v2.toNat < -127 || 127 < (v1.toNat : Int) - v2.toNat) (v1 == v2) (v2.toNat ≤ v1.toNat)

/-- The byte OR, AND, EOR, ADC or SBC gives (R110 to R112). -/
def State.aluByte (s : State) (op : Alu) (v1 v2 : Byte) : Byte :=
  match op with
  | .or => BitVec.ofNat 8 (v1.toNat ||| v2.toNat)
  | .and => BitVec.ofNat 8 (v1.toNat &&& v2.toNat)
  | .eor => BitVec.ofNat 8 (v1.toNat ^^^ v2.toNat)
  | .adc => BitVec.ofNat 8 (s.fullSum v1 v2)
  | .sbc => BitVec.ofNat 8 (s.diff16 v1 v2)

/-- PSW after OR, AND, EOR, ADC or SBC (R110 to R112). -/
def State.aluPsw (s : State) (op : Alu) (v1 v2 : Byte) : Byte :=
  match op with
  | .or => s.pswFrom8 (s.aluByte .or v1 v2)
  | .and => s.pswFrom8 (s.aluByte .and v1 v2)
  | .eor => s.pswFrom8 (s.aluByte .eor v1 v2)
  | .adc => s.pswAdc v1 v2
  | .sbc => s.pswSbc v1 v2

/-! ## The arithmetic of R192 and R193, on numbers -/

/-- The byte a shift, rotate, INC or DEC gives (R192, R193). -/
def State.rmwByte (s : State) (op : Rmw) (v : Byte) : Byte :=
  match op with
  | .asl => BitVec.ofNat 8 (2 * v.toNat)
  | .lsr => BitVec.ofNat 8 (v.toNat / 2)
  | .rol => BitVec.ofNat 8 (2 * v.toNat + s.carry)
  | .ror => BitVec.ofNat 8 (v.toNat / 2 + 0x80 * s.carry)
  | .inc => BitVec.ofNat 8 (v.toNat + 1)
  | .dec => BitVec.ofNat 8 (v.toNat + 0xFF)

/-- The carry after a shift, rotate, INC or DEC (R192, R193). -/
def State.rmwC (s : State) (op : Rmw) (v : Byte) : Bool :=
  match op with
  | .asl => 0x80 ≤ v.toNat
  | .lsr => v.toNat % 2 == 1
  | .rol => 0x80 ≤ v.toNat
  | .ror => v.toNat % 2 == 1
  | .inc => s.flag .c
  | .dec => s.flag .c

/-- PSW after a shift, rotate, INC or DEC (R192, R193). -/
def State.rmwPsw (s : State) (op : Rmw) (v : Byte) : Byte :=
  s.pswNZC (0x80 ≤ (s.rmwByte op v).toNat) ((s.rmwByte op v).toNat == 0) (s.rmwC op v)

/-! ## Operand forms -/

/-- The address of the last byte access that reads a source operand: the immediate byte, or the operand in memory. -/
def State.sourceAddr (s : State) (src : Source) : Nat :=
  match src with
  | .imm _ => s.pc.toNat
  | .mem m => (s.ea m).toNat

/-- PC after `k` operand bytes. -/
def State.pcAfter (s : State) (k : Nat) : Word := BitVec.ofNat 16 (s.pc.toNat + k)

/-- A branch target: PC after `k` operand bytes plus the signed displacement, modulo 2^16 (R103). -/
def State.target (s : State) (k : Nat) (rr : Byte) : Word := BitVec.ofInt 16 ((s.pc.toNat : Int) + k + rr.toInt)

/-- The nine operand forms of the instructions whose destination or first operand is A. -/
inductive AccOperand where
  /-- `#imm` (R91) -/
  | imm (ii : Byte)
  /-- `(X)` (R92) -/
  | xInd
  /-- `dp` (R95) -/
  | dp (dd : Byte)
  /-- `dp+X` (R96) -/
  | dpX (dd : Byte)
  /-- `!abs` (R98) -/
  | abs (addr : Word)
  /-- `!abs+X` (R99) -/
  | absX (addr : Word)
  /-- `!abs+Y` (R100) -/
  | absY (addr : Word)
  /-- `[dp+X]` (R101) -/
  | indX (dd : Byte)
  /-- `[dp]+Y` (R102) -/
  | indY (dd : Byte)
deriving DecidableEq, Repr

/-- The source operand of the form. -/
def AccOperand.source (o : AccOperand) : Source :=
  match o with
  | .imm ii => .imm ii
  | .xInd => .mem .xInd
  | .dp dd => .mem (.dp dd)
  | .dpX dd => .mem (.dpX dd)
  | .abs addr => .mem (.abs addr)
  | .absX addr => .mem (.absX addr)
  | .absY addr => .mem (.absY addr)
  | .indX dd => .mem (.indX dd)
  | .indY dd => .mem (.indY dd)

/-- How many operand bytes the form has (R108). -/
def AccOperand.bytes (o : AccOperand) : Nat :=
  match o with
  | .imm _ => 1
  | .xInd => 0
  | .dp _ => 1
  | .dpX _ => 1
  | .abs _ => 2
  | .absX _ => 2
  | .absY _ => 2
  | .indX _ => 1
  | .indY _ => 1

/-- `OR A`, `AND A`, `EOR A`, `ADC A`, `SBC A` with each of the nine forms: 45 instructions. -/
def aluAInstr (op : Alu) (o : AccOperand) : Instr :=
  match op, o with
  | .or, .imm ii => .orAImm ii
  | .or, .xInd => .orAXInd
  | .or, .dp dd => .orADp dd
  | .or, .dpX dd => .orADpX dd
  | .or, .abs addr => .orAAbs addr
  | .or, .absX addr => .orAAbsX addr
  | .or, .absY addr => .orAAbsY addr
  | .or, .indX dd => .orAIndX dd
  | .or, .indY dd => .orAIndY dd
  | .and, .imm ii => .andAImm ii
  | .and, .xInd => .andAXInd
  | .and, .dp dd => .andADp dd
  | .and, .dpX dd => .andADpX dd
  | .and, .abs addr => .andAAbs addr
  | .and, .absX addr => .andAAbsX addr
  | .and, .absY addr => .andAAbsY addr
  | .and, .indX dd => .andAIndX dd
  | .and, .indY dd => .andAIndY dd
  | .eor, .imm ii => .eorAImm ii
  | .eor, .xInd => .eorAXInd
  | .eor, .dp dd => .eorADp dd
  | .eor, .dpX dd => .eorADpX dd
  | .eor, .abs addr => .eorAAbs addr
  | .eor, .absX addr => .eorAAbsX addr
  | .eor, .absY addr => .eorAAbsY addr
  | .eor, .indX dd => .eorAIndX dd
  | .eor, .indY dd => .eorAIndY dd
  | .adc, .imm ii => .adcAImm ii
  | .adc, .xInd => .adcAXInd
  | .adc, .dp dd => .adcADp dd
  | .adc, .dpX dd => .adcADpX dd
  | .adc, .abs addr => .adcAAbs addr
  | .adc, .absX addr => .adcAAbsX addr
  | .adc, .absY addr => .adcAAbsY addr
  | .adc, .indX dd => .adcAIndX dd
  | .adc, .indY dd => .adcAIndY dd
  | .sbc, .imm ii => .sbcAImm ii
  | .sbc, .xInd => .sbcAXInd
  | .sbc, .dp dd => .sbcADp dd
  | .sbc, .dpX dd => .sbcADpX dd
  | .sbc, .abs addr => .sbcAAbs addr
  | .sbc, .absX addr => .sbcAAbsX addr
  | .sbc, .absY addr => .sbcAAbsY addr
  | .sbc, .indX dd => .sbcAIndX dd
  | .sbc, .indY dd => .sbcAIndY dd

/-- The three forms whose destination is a byte of memory. -/
inductive MemForm where
  /-- `(X), (Y)` -/
  | xy
  /-- `dp, dp` -/
  | dpDp (ss dd : Byte)
  /-- `dp, #imm` -/
  | dpImm (ii dd : Byte)
deriving DecidableEq, Repr

/-- The source operand of the form. -/
def MemForm.source (f : MemForm) : Source :=
  match f with
  | .xy => .mem .yInd
  | .dpDp ss _ => .mem (.dp ss)
  | .dpImm ii _ => .imm ii

/-- The destination of the form. -/
def MemForm.dest (f : MemForm) : Mode :=
  match f with
  | .xy => .xInd
  | .dpDp _ dd => .dp dd
  | .dpImm _ dd => .dp dd

/-- How many operand bytes the form has (R108). -/
def MemForm.bytes (f : MemForm) : Nat :=
  match f with
  | .xy => 0
  | .dpDp _ _ => 2
  | .dpImm _ _ => 2

/-- OR, AND, EOR, ADC, SBC with each memory destination: 15 instructions. -/
def aluMemInstr (op : Alu) (f : MemForm) : Instr :=
  match op, f with
  | .or, .xy => .orXY
  | .or, .dpDp ss dd => .orDpDp ss dd
  | .or, .dpImm ii dd => .orDpImm ii dd
  | .and, .xy => .andXY
  | .and, .dpDp ss dd => .andDpDp ss dd
  | .and, .dpImm ii dd => .andDpImm ii dd
  | .eor, .xy => .eorXY
  | .eor, .dpDp ss dd => .eorDpDp ss dd
  | .eor, .dpImm ii dd => .eorDpImm ii dd
  | .adc, .xy => .adcXY
  | .adc, .dpDp ss dd => .adcDpDp ss dd
  | .adc, .dpImm ii dd => .adcDpImm ii dd
  | .sbc, .xy => .sbcXY
  | .sbc, .dpDp ss dd => .sbcDpDp ss dd
  | .sbc, .dpImm ii dd => .sbcDpImm ii dd

/-- CMP with each memory destination: 3 instructions. -/
def cmpMemInstr (f : MemForm) : Instr :=
  match f with
  | .xy => .cmpXY
  | .dpDp ss dd => .cmpDpDp ss dd
  | .dpImm ii dd => .cmpDpImm ii dd

/-- The three operand forms `CMP X` and `CMP Y` have. -/
inductive IndexOperand where
  | imm (ii : Byte)
  | dp (dd : Byte)
  | abs (addr : Word)
deriving DecidableEq, Repr

/-- The form as one of the nine. -/
def IndexOperand.acc (o : IndexOperand) : AccOperand :=
  match o with
  | .imm ii => .imm ii
  | .dp dd => .dp dd
  | .abs addr => .abs addr

/-- `CMP A` with each of the nine forms: 9 instructions. -/
def cmpAInstr (o : AccOperand) : Instr :=
  match o with
  | .imm ii => .cmpAImm ii
  | .xInd => .cmpAXInd
  | .dp dd => .cmpADp dd
  | .dpX dd => .cmpADpX dd
  | .abs addr => .cmpAAbs addr
  | .absX addr => .cmpAAbsX addr
  | .absY addr => .cmpAAbsY addr
  | .indX dd => .cmpAIndX dd
  | .indY dd => .cmpAIndY dd

/-- `CMP X` with its three forms. -/
def cmpXInstr (o : IndexOperand) : Instr :=
  match o with
  | .imm ii => .cmpXImm ii
  | .dp dd => .cmpXDp dd
  | .abs addr => .cmpXAbs addr

/-- `CMP Y` with its three forms. -/
def cmpYInstr (o : IndexOperand) : Instr :=
  match o with
  | .imm ii => .cmpYImm ii
  | .dp dd => .cmpYDp dd
  | .abs addr => .cmpYAbs addr

/-- The three memory forms of the shifts, rotates, INC and DEC. -/
inductive RmwForm where
  | dp (dd : Byte)
  | dpX (dd : Byte)
  | abs (addr : Word)
deriving DecidableEq, Repr

/-- The addressing mode of the form. -/
def RmwForm.mode (f : RmwForm) : Mode :=
  match f with
  | .dp dd => .dp dd
  | .dpX dd => .dpX dd
  | .abs addr => .abs addr

/-- How many operand bytes the form has (R108). -/
def RmwForm.bytes (f : RmwForm) : Nat :=
  match f with
  | .dp _ => 1
  | .dpX _ => 1
  | .abs _ => 2

/-- ASL, LSR, ROL, ROR, INC, DEC on a byte of memory: 18 instructions. -/
def rmwMemInstr (op : Rmw) (f : RmwForm) : Instr :=
  match op, f with
  | .asl, .dp dd => .aslDp dd
  | .asl, .dpX dd => .aslDpX dd
  | .asl, .abs addr => .aslAbs addr
  | .lsr, .dp dd => .lsrDp dd
  | .lsr, .dpX dd => .lsrDpX dd
  | .lsr, .abs addr => .lsrAbs addr
  | .rol, .dp dd => .rolDp dd
  | .rol, .dpX dd => .rolDpX dd
  | .rol, .abs addr => .rolAbs addr
  | .ror, .dp dd => .rorDp dd
  | .ror, .dpX dd => .rorDpX dd
  | .ror, .abs addr => .rorAbs addr
  | .inc, .dp dd => .incDp dd
  | .inc, .dpX dd => .incDpX dd
  | .inc, .abs addr => .incAbs addr
  | .dec, .dp dd => .decDp dd
  | .dec, .dpX dd => .decDpX dd
  | .dec, .abs addr => .decAbs addr

/-- ASL, LSR, ROL, ROR on A, and INC, DEC on A, X and Y: 10 instructions. -/
def rmwRegForms : List (Instr × Rmw × Reg) := [
  (.aslA, .asl, .a), (.lsrA, .lsr, .a), (.rolA, .rol, .a), (.rorA, .ror, .a), (.incA, .inc, .a), (.decA, .dec, .a),
  (.incX, .inc, .x), (.decX, .dec, .x), (.incY, .inc, .y), (.decY, .dec, .y)]

/-- The loads `MOV register, operand`, but for `MOV A, (X)+`. -/
inductive LoadForm where
  | a (o : AccOperand)
  | xImm (ii : Byte)
  | xDp (dd : Byte)
  | xDpY (dd : Byte)
  | xAbs (addr : Word)
  | yImm (ii : Byte)
  | yDp (dd : Byte)
  | yDpX (dd : Byte)
  | yAbs (addr : Word)
deriving DecidableEq, Repr

/-- The load's instruction: 17 of them. -/
def LoadForm.instr (f : LoadForm) : Instr :=
  match f with
  | .a (.imm ii) => .movAImm ii
  | .a .xInd => .movAXInd
  | .a (.dp dd) => .movADp dd
  | .a (.dpX dd) => .movADpX dd
  | .a (.abs addr) => .movAAbs addr
  | .a (.absX addr) => .movAAbsX addr
  | .a (.absY addr) => .movAAbsY addr
  | .a (.indX dd) => .movAIndX dd
  | .a (.indY dd) => .movAIndY dd
  | .xImm ii => .movXImm ii
  | .xDp dd => .movXDp dd
  | .xDpY dd => .movXDpY dd
  | .xAbs addr => .movXAbs addr
  | .yImm ii => .movYImm ii
  | .yDp dd => .movYDp dd
  | .yDpX dd => .movYDpX dd
  | .yAbs addr => .movYAbs addr

/-- The register the load writes. -/
def LoadForm.reg (f : LoadForm) : Reg :=
  match f with
  | .a _ => .a
  | .xImm _ => .x
  | .xDp _ => .x
  | .xDpY _ => .x
  | .xAbs _ => .x
  | .yImm _ => .y
  | .yDp _ => .y
  | .yDpX _ => .y
  | .yAbs _ => .y

/-- The source operand of the load. -/
def LoadForm.source (f : LoadForm) : Source :=
  match f with
  | .a o => o.source
  | .xImm ii => .imm ii
  | .xDp dd => .mem (.dp dd)
  | .xDpY dd => .mem (.dpY dd)
  | .xAbs addr => .mem (.abs addr)
  | .yImm ii => .imm ii
  | .yDp dd => .mem (.dp dd)
  | .yDpX dd => .mem (.dpX dd)
  | .yAbs addr => .mem (.abs addr)

/-- How many operand bytes the load has (R108). -/
def LoadForm.bytes (f : LoadForm) : Nat :=
  match f with
  | .a o => o.bytes
  | .xImm _ => 1
  | .xDp _ => 1
  | .xDpY _ => 1
  | .xAbs _ => 2
  | .yImm _ => 1
  | .yDp _ => 1
  | .yDpX _ => 1
  | .yAbs _ => 2

/-- The stores `MOV operand, register`, but for `MOV (X)+, A`. -/
inductive StoreForm where
  | aXInd
  | aDp (dd : Byte)
  | aDpX (dd : Byte)
  | aAbs (addr : Word)
  | aAbsX (addr : Word)
  | aAbsY (addr : Word)
  | aIndX (dd : Byte)
  | aIndY (dd : Byte)
  | xDp (dd : Byte)
  | xDpY (dd : Byte)
  | xAbs (addr : Word)
  | yDp (dd : Byte)
  | yDpX (dd : Byte)
  | yAbs (addr : Word)
deriving DecidableEq, Repr

/-- The store's instruction: 14 of them. -/
def StoreForm.instr (f : StoreForm) : Instr :=
  match f with
  | .aXInd => .movXIndA
  | .aDp dd => .movDpA dd
  | .aDpX dd => .movDpXA dd
  | .aAbs addr => .movAbsA addr
  | .aAbsX addr => .movAbsXA addr
  | .aAbsY addr => .movAbsYA addr
  | .aIndX dd => .movIndXA dd
  | .aIndY dd => .movIndYA dd
  | .xDp dd => .movDpX dd
  | .xDpY dd => .movDpYX dd
  | .xAbs addr => .movAbsX addr
  | .yDp dd => .movDpY dd
  | .yDpX dd => .movDpXY dd
  | .yAbs addr => .movAbsY addr

/-- The register the store reads. -/
def StoreForm.reg (f : StoreForm) : Reg :=
  match f with
  | .aXInd => .a
  | .aDp _ => .a
  | .aDpX _ => .a
  | .aAbs _ => .a
  | .aAbsX _ => .a
  | .aAbsY _ => .a
  | .aIndX _ => .a
  | .aIndY _ => .a
  | .xDp _ => .x
  | .xDpY _ => .x
  | .xAbs _ => .x
  | .yDp _ => .y
  | .yDpX _ => .y
  | .yAbs _ => .y

/-- The addressing mode of the store's destination. -/
def StoreForm.mode (f : StoreForm) : Mode :=
  match f with
  | .aXInd => .xInd
  | .aDp dd => .dp dd
  | .aDpX dd => .dpX dd
  | .aAbs addr => .abs addr
  | .aAbsX addr => .absX addr
  | .aAbsY addr => .absY addr
  | .aIndX dd => .indX dd
  | .aIndY dd => .indY dd
  | .xDp dd => .dp dd
  | .xDpY dd => .dpY dd
  | .xAbs addr => .abs addr
  | .yDp dd => .dp dd
  | .yDpX dd => .dpX dd
  | .yAbs addr => .abs addr

/-- How many operand bytes the store has (R108). -/
def StoreForm.bytes (f : StoreForm) : Nat :=
  match f with
  | .aXInd => 0
  | .aDp _ => 1
  | .aDpX _ => 1
  | .aAbs _ => 2
  | .aAbsX _ => 2
  | .aAbsY _ => 2
  | .aIndX _ => 1
  | .aIndY _ => 1
  | .xDp _ => 1
  | .xDpY _ => 1
  | .xAbs _ => 2
  | .yDp _ => 1
  | .yDpX _ => 1
  | .yAbs _ => 2

/-- The conditional branches with their conditions, and BRA with none (R235 to R243). -/
def branchForms : List ((Byte → Instr) × (State → Bool)) := [
  (.bra, fun _ => true), (.beq, fun s => s.flag .z), (.bne, fun s => !s.flag .z), (.bcs, fun s => s.flag .c),
  (.bcc, fun s => !s.flag .c), (.bvs, fun s => s.flag .v), (.bvc, fun s => !s.flag .v), (.bmi, fun s => s.flag .n),
  (.bpl, fun s => !s.flag .n)]

/-! ## The pairs of instructions that push and pop -/

/-- The four registers that PUSH and POP name (R262 to R269). -/
inductive StackReg where
  | a
  | x
  | y
  | psw
deriving DecidableEq, Repr

/-- The register's value. -/
def State.stackReg (s : State) (r : StackReg) : Byte :=
  match r with
  | .a => s.a
  | .x => s.x
  | .y => s.y
  | .psw => s.psw

/-- `PUSH r` (R262 to R265). -/
def StackReg.push (r : StackReg) : Instr :=
  match r with
  | .a => .pushA
  | .x => .pushX
  | .y => .pushY
  | .psw => .pushPsw

/-- `POP r` (R266 to R269). -/
def StackReg.pop (r : StackReg) : Instr :=
  match r with
  | .a => .popA
  | .x => .popX
  | .y => .popY
  | .psw => .popPsw

/-- The three calls that RET returns from (R256 to R258). -/
inductive CallForm where
  | call (addr : Word)
  | pcall (uu : Byte)
  | tcall (n : Nat)
deriving DecidableEq, Repr

/-- The call's instruction. -/
def CallForm.instr (f : CallForm) : Instr :=
  match f with
  | .call addr => .call addr
  | .pcall uu => .pcall uu
  | .tcall n => .tcall n

/-- How many operand bytes the call has (R108). -/
def CallForm.bytes (f : CallForm) : Nat :=
  match f with
  | .call _ => 2
  | .pcall _ => 1
  | .tcall _ => 0

end Sys2Proof.Machine
end

