-- ==== Sys2Proof/Certificates/Slice0/Obligations.lean ====
section
/-! DEFINITION. The statements about the machine. `s` is any state (so any value of every parameter of R6), and an
equation `exec i s = .next t` says that `i` completes, what `t` holds and, by the fields it does not name, what is
unchanged. Every instruction statement is about the state after the opcode fetch (R86), so `s.pc` is there the address of
the first operand byte. -/

open Sys2Proof Sys2Proof.Machine

/-! ## Reset, load, memory -/

/-- R32, R349: construction leaves every register, flag and byte of memory 0, with the default parameters of R6. (The
value of `last_addr` is unspecified there and nothing is said of it here; that "zeroed" covers every field is the spec's
decision D16 and D22, and holding the parameters in `State` is the model's choice, log entry 2.) -/
def Obligations.ResetIsZeroed : Prop :=
  State.reset.a = 0 ∧ State.reset.x = 0 ∧ State.reset.y = 0 ∧ State.reset.sp = 0 ∧ State.reset.psw = 0 ∧
    State.reset.pc = 0 ∧ (∀ k, State.reset.peek k = 0) ∧
    State.reset.params = ⟨[], .split, .document, ⟨(0xFF, 0xFF), []⟩, .intended, .unsignedOperands⟩

/-- R33, R39, R351: a load replaces every register and writes the buffer's byte `i` to `addr + i`; a byte the buffer does
not cover, or that would land above 0xFFFF, changes nothing. (The spec accepts buffers of 0 to 0x10000 bytes, its decision D17; that a
longer one is loaded too, and cut off, is the model's, log entry 11.) -/
def Obligations.LoadReplacesRegistersAndMemory : Prop :=
  (∀ (s : State) (r : Snapshot), s.loadRegisters r =
    { s with pc := r.pc, a := r.a, x := r.x, y := r.y, psw := r.psw, sp := r.sp }) ∧
  (∀ (s : State) (addr : Nat) (bytes : List Byte),
    s.writeBytes addr bytes =
      { s with mem := (s.writeBytes addr bytes).mem, lastAddr := (s.writeBytes addr bytes).lastAddr } ∧
    ∀ k, (s.writeBytes addr bytes).peek k =
      if addr ≤ k ∧ k < addr + bytes.length ∧ k ≤ 0xFFFF then bytes.getD (k - addr) 0 else s.peek k) ∧
  ∀ (s : State) (r : Snapshot) (buffer : List Byte),
    s.loadSnapshot r buffer =
      { s with
        pc := r.pc, a := r.a, x := r.x, y := r.y, psw := r.psw, sp := r.sp,
        mem := (s.loadSnapshot r buffer).mem, lastAddr := (s.loadSnapshot r buffer).lastAddr } ∧
    ∀ k, (s.loadSnapshot r buffer).peek k =
      if k < buffer.length ∧ k ≤ 0xFFFF then buffer.getD k 0 else s.peek k

/-- R35: MemRead answers the byte of memory at an address up to 0xFFFF and 0 above, and its only effect is `last_addr`. -/
def Obligations.MemReadReturnsByteOrZero : Prop :=
  ∀ (s : State) (addr : Nat),
    (addr ≤ 0xFFFF → s.peek addr = s.mem.byteAt addr) ∧ (0xFFFF < addr → s.peek addr = 0) ∧
      s.touch addr = { s with lastAddr := addr }

/-- R36: MemWrite stores the byte at an address up to 0xFFFF, nothing above, sets `last_addr`, and changes nothing else. -/
def Obligations.MemWriteStoresOneByte : Prop :=
  ∀ (s : State) (addr : Nat) (v : Byte),
    s.memWrite addr v = { s with mem := (s.memWrite addr v).mem, lastAddr := addr } ∧
    (∀ k, (s.memWrite addr v).peek k = if k = addr ∧ addr ≤ 0xFFFF then v else s.peek k) ∧
    (0xFFFF < addr → (s.memWrite addr v).mem = s.mem)

/-- R37: ReadWord is little-endian over `addr` and `addr + 1`, not reduced modulo 2^16, so its high byte at 0xFFFF is 0. -/
def Obligations.ReadWordIsLittleEndianWithoutWrap : Prop :=
  ∀ s : State,
    (∀ addr, (s.peekWord addr).toNat = 0x100 * (s.peek (addr + 1)).toNat + (s.peek addr).toNat ∧
      s.touchWord addr = { s with lastAddr := addr + 1 }) ∧
    (s.peekWord 0xFFFF).toNat = (s.peek 0xFFFF).toNat

/-- R38: WriteWord in both modes (the spec's decision D2): where the two bytes go, what reads back, and that nothing else
changes. -/
def Obligations.WriteWordFollowsItsMode : Prop :=
  ∀ (s : State) (addr : Nat) (w : Word),
    (s.params.writeWordMode = .split →
      s.writeWord addr w = { s with mem := (s.writeWord addr w).mem, lastAddr := addr + 1 } ∧
      (∀ k, (s.writeWord addr w).peek k =
        if 0xFFFF < k then 0
        else if k = addr then BitVec.ofNat 8 w.toNat
        else if k = addr + 1 then BitVec.ofNat 8 (w.toNat / 0x100)
        else s.peek k) ∧
      (addr < 0xFFFF → (s.writeWord addr w).peekWord addr = w)) ∧
    (s.params.writeWordMode = .sameAddress →
      s.writeWord addr w = { s with mem := (s.writeWord addr w).mem, lastAddr := addr } ∧
      ∀ k, (s.writeWord addr w).peek k =
        if 0xFFFF < k then 0 else if k = addr then BitVec.ofNat 8 (w.toNat / 0x100) else s.peek k)

/-- Two memories in canonical form that read alike at every address are equal lists. (The list form is the model's own,
log entry 7; that memory is one byte for each address 0x0000 to 0xFFFF is R34.) -/
def Obligations.CanonicalMemoryIsUnique : Prop :=
  ∀ m m' : Memory, m.wf = true → m'.wf = true → (∀ k, k ≤ 0xFFFF → m.byteAt k = m'.byteAt k) → m = m'

/-! ## Decoding and the step -/

/-- Decoding an encoded well-formed instruction gives it back, with whatever follows it left over. -/
def Obligations.DecodeInvertsEncode : Prop :=
  ∀ (i : Instr) (rest : List Byte), i.WellFormed → decode (encode i ++ rest) = .ok (i, rest)

/-- R80: any three bytes decode to an instruction that is well formed and whose encoding is the bytes it was read from: no
bit of an instruction is dropped. -/
def Obligations.EncodeInvertsDecode : Prop :=
  ∀ op b1 b2 : Byte, ∃ (i : Instr) (rest : List Byte),
    decode [op, b1, b2] = .ok (i, rest) ∧ i.WellFormed ∧ encode i ++ rest = [op, b1, b2]

/-- Nine words of nine formats, written out from spec/30_encoding.md, decode to their instructions: operand order, bit numbers,
the TCALL index and the mem.bit word among them. -/
def Obligations.SampleWordsDecode : Prop :=
  decode [0xE8, 0xF1] = .ok (.movAImm 0xF1, []) ∧ decode [0x09, 0x10, 0x11] = .ok (.orDpDp 0x10 0x11, []) ∧
    decode [0x8F, 0xAB, 0x10] = .ok (.movDpImm 0xAB 0x10, []) ∧
    decode [0x3F, 0x34, 0x12] = .ok (.call 0x1234, []) ∧ decode [0x41] = .ok (.tcall 4, []) ∧
    decode [0x62, 0x10] = .ok (.set1 3 0x10, []) ∧ decode [0xF3, 0x10, 0xFE] = .ok (.bbc 7 0x10 0xFE, []) ∧
    decode [0xAA, 0x34, 0x72] = .ok (.mov1CMem 3 0x1234, []) ∧ decode [0x6E, 0x10, 0xFD] = .ok (.dbnzDp 0x10 0xFD, [])

/-- R86, R87: when the opcode byte at PC is recognized and it and the two bytes after it (modulo 2^16) decode to `i`, the
step is `i` run on the state after the opcode fetch: PC one further, `last_addr` the opcode's address. -/
def Obligations.StepRunsDecodedInstruction : Prop :=
  ∀ (s : State) (i : Instr) (rest : List Byte),
    s.peek s.pc.toNat ∉ s.params.unrecognized →
    decode [s.peek s.pc.toNat, s.peek (s.pc + 1).toNat, s.peek (s.pc + 2).toNat] = .ok (i, rest) →
    step s = exec i { s with pc := s.pc + 1, lastAddr := s.pc.toNat }

/-- R86: when the bytes of a well-formed instruction stand in memory from PC on (modulo 2^16), whatever stands after them,
the step runs that instruction. -/
def Obligations.StepRunsEncodedInstruction : Prop :=
  ∀ (s : State) (i : Instr), i.WellFormed →
    (∀ k, k < (encode i).length → s.peek ((s.pc.toNat + k) % 0x10000) = (encode i).getD k 0) →
    s.peek s.pc.toNat ∉ s.params.unrecognized →
    step s = exec i { s with pc := s.pc + 1, lastAddr := s.pc.toNat } ∧ s.unknownOpcode = none

/-- R81: an opcode byte that is not recognized is skipped, one byte, with its event and no other change; the event is
emitted for no other byte. (The event is the spec's decision D19, R29; that it is a function of the state before the step is
the model's, log entry 5.) -/
def Obligations.UnrecognizedOpcodeIsSkipped : Prop :=
  ∀ s : State,
    (s.peek s.pc.toNat ∈ s.params.unrecognized →
      step s = .next { s with pc := s.pc + 1, lastAddr := s.pc.toNat } ∧
        s.unknownOpcode = some (s.peek s.pc.toNat)) ∧
    (s.peek s.pc.toNat ∉ s.params.unrecognized → s.unknownOpcode = none)

/-- R86, R334: every instruction, and every step, completes. -/
def Obligations.EveryStepCompletes : Prop :=
  (∀ (i : Instr) (s : State), ∃ t, exec i s = .next t) ∧ ∀ s : State, ∃ t, step s = .next t

/-! ## What every step keeps -/

/-- Every step keeps the memory in canonical form and `last_addr` at most 0x10000. (The canonical list form is the model's
own, log entry 7; that memory is 0x10000 bytes is R34, and that `last_addr` may be 0x10000 is R28.) -/
def Obligations.StepKeepsInvariant : Prop :=
  ∀ s t : State, s.Inv → step s = .next t → t.Inv

/-- The state after construction meets the invariant. (Its `last_addr` of 0 is the model's choice, log entry 1, for a value
that R28 and R32 leave unspecified, and the canonical form of its memory is the model's own, log entry 7.) -/
def Obligations.ResetMeetsInvariant : Prop := State.reset.Inv

/-- No step changes a parameter (R6: the parameters are arguments; log entry 2). -/
def Obligations.StepKeepsParameters : Prop :=
  ∀ s t : State, step s = .next t → t.params = s.params

/-- R28: no instruction reads `last_addr`, so a step does not depend on it. -/
def Obligations.LastAddressInfluencesNothing : Prop :=
  ∀ (s : State) (k : Nat), step { s with lastAddr := k } = step s ∧
    State.unknownOpcode { s with lastAddr := k } = s.unknownOpcode

/-- R14, R19, R21, R22, R31: P is written by SETP, CLRP, POP PSW and RETI only; I by EI, DI, BRK, POP PSW and RETI only; B
by BRK, POP PSW and RETI only; SP by the stack instructions and `MOV SP, X` only. -/
def Obligations.FlagsAndStackPointerHaveFewWriters : Prop :=
  ∀ (i : Instr) (s t : State), exec i s = .next t →
    (i ∉ [Instr.setp, .clrp, .popPsw, .reti] → t.flag .p = s.flag .p) ∧
    (i ∉ [Instr.ei, .di, .brk, .popPsw, .reti] → t.flag .i = s.flag .i) ∧
    (i ∉ [Instr.brk, .popPsw, .reti] → t.flag .b = s.flag .b) ∧
    (i ∉ [Instr.pushA, .pushX, .pushY, .pushPsw, .popA, .popX, .popY, .popPsw, .brk, .ret, .reti, .movSpX] →
      (∀ addr, i ≠ .call addr) → (∀ uu, i ≠ .pcall uu) → (∀ n, i ≠ .tcall n) → t.sp = s.sp)

/-- R19, R337: nothing reads the I flag but the two instructions that push PSW. Two states that differ in I only go, by
any other instruction, to states that differ in I at most. -/
def Obligations.InterruptFlagInfluencesNothing : Prop :=
  ∀ (i : Instr) (s : State) (v : Bool), i ≠ .pushPsw → i ≠ .brk →
    ∃ t t', exec i s = .next t ∧ exec i (s.setFlag .i v) = .next t' ∧ t'.setFlag .i false = t.setFlag .i false

/-! ## Addresses -/

/-- R89: DP(b) is `0x0100 + b` where P is 1 and `b` where P is 0. -/
def Obligations.DirectPageAddress : Prop :=
  ∀ (s : State) (b : Byte), (s.dp b).toNat = if s.psw.getLsbD 5 then 0x0100 + b.toNat else b.toNat

/-- R90, R92 to R102: the effective address of every mode. `dp+X`, `dp+Y` and the pointer address of `[dp+X]` leave the
page unreduced; sums with a 16-bit base are modulo 2^16. (These widths are a choice the spec marks as its own, D8; log
entry 9.) -/
def Obligations.EffectiveAddresses : Prop :=
  ∀ (s : State) (d : Byte) (addr : Word),
    s.ea .xInd = s.dp s.x ∧ s.ea .yInd = s.dp s.y ∧ s.ea (.dp d) = s.dp d ∧ s.ea (.abs addr) = addr ∧
    (s.ea (.dpX d)).toNat = (s.dp d).toNat + s.x.toNat ∧ (s.ea (.dpY d)).toNat = (s.dp d).toNat + s.y.toNat ∧
    (s.ea (.absX addr)).toNat = (addr.toNat + s.x.toNat) % 0x10000 ∧
    (s.ea (.absY addr)).toNat = (addr.toNat + s.y.toNat) % 0x10000 ∧
    (s.ea (.indX d)).toNat = 0x100 * (s.peek ((s.dp d).toNat + s.x.toNat + 1)).toNat +
      (s.peek ((s.dp d).toNat + s.x.toNat)).toNat ∧
    (s.ea (.indY d)).toNat = (0x100 * (s.peek ((s.dp d).toNat + 1)).toNat + (s.peek (s.dp d).toNat).toNat +
      s.y.toNat) % 0x10000

/-! ## The flag helpers -/

/-- R109, R223: SetNZ8 and SetNZ16 write Z and N from the byte or word, and nothing else. -/
def Obligations.SetNZWritesTwoFlags : Prop :=
  ∀ (s : State) (v : Byte) (w : Word),
    s.setNZ8 v = { s with psw := s.pswNZ (0x80 ≤ v.toNat) (v.toNat == 0) } ∧
    s.setNZ16 w = { s with psw := s.pswNZ (0x8000 ≤ w.toNat) (w.toNat == 0) }

/-- R111: the byte and the flags of ADC8, for both readings of the overflow test (a parameter by the spec's decision D6; log
entry 9). -/
def Obligations.AdcHelperFollowsItsRule : Prop :=
  ∀ (s : State) (v1 v2 : Byte) (S : Nat), S = v1.toNat + v2.toNat + (s.flag .c).toNat →
    (s.aluResult .adc v1 v2).toNat = S % 0x100 ∧
    s.aluFlags .adc v1 v2 = { s with psw := (s.aluFlags .adc v1 v2).psw } ∧
    (s.aluFlags .adc v1 v2).flag .c = decide (0xFF < S) ∧
    (s.aluFlags .adc v1 v2).flag .h = (((v1.toNat ^^^ v2.toNat ^^^ S) &&& 0x10) != 0) ∧
    (s.params.overflow8 = .unsignedOperands → (s.aluFlags .adc v1 v2).flag .v = decide (127 < S)) ∧
    (s.params.overflow8 = .signedOperands → ((s.aluFlags .adc v1 v2).flag .v = true ↔
      v1.toInt + v2.toInt + (s.flag .c).toNat < -127 ∨ 127 < v1.toInt + v2.toInt + (s.flag .c).toNat)) ∧
    (s.aluFlags .adc v1 v2).flag .z = (S % 0x100 == 0) ∧
    (s.aluFlags .adc v1 v2).flag .n = decide (0x80 ≤ S % 0x100) ∧
    (s.aluFlags .adc v1 v2).flag .p = s.flag .p ∧ (s.aluFlags .adc v1 v2).flag .b = s.flag .b ∧
    (s.aluFlags .adc v1 v2).flag .i = s.flag .i

/-- R112: the byte and the flags of SBC8, for both readings of the overflow test (the spec's decision D6). The term `1 - C`
is added; that C is set where the high byte is zero is the spec's decision D10. -/
def Obligations.SbcHelperFollowsItsRule : Prop :=
  ∀ (s : State) (v1 v2 : Byte) (R : Int) (R16 : Nat),
    R = (v1.toNat : Int) - v2.toNat + (1 - (s.flag .c).toNat) → R16 = (R % 0x10000).toNat →
    (s.aluResult .sbc v1 v2).toNat = R16 % 0x100 ∧
    s.aluFlags .sbc v1 v2 = { s with psw := (s.aluFlags .sbc v1 v2).psw } ∧
    (s.aluFlags .sbc v1 v2).flag .c = decide (R16 / 0x100 = 0) ∧
    (s.aluFlags .sbc v1 v2).flag .h = (((v1.toNat ^^^ v2.toNat ^^^ R16) &&& 0x10) != 0) ∧
    (s.params.overflow8 = .unsignedOperands →
      ((s.aluFlags .sbc v1 v2).flag .v = true ↔ R < -127 ∨ 127 < R)) ∧
    (s.params.overflow8 = .signedOperands → ((s.aluFlags .sbc v1 v2).flag .v = true ↔
      v1.toInt - v2.toInt + (1 - (s.flag .c).toNat) < -127 ∨
        127 < v1.toInt - v2.toInt + (1 - (s.flag .c).toNat))) ∧
    (s.aluFlags .sbc v1 v2).flag .z = (R16 % 0x100 == 0) ∧
    (s.aluFlags .sbc v1 v2).flag .n = decide (0x80 ≤ R16 % 0x100) ∧
    (s.aluFlags .sbc v1 v2).flag .p = s.flag .p ∧ (s.aluFlags .sbc v1 v2).flag .b = s.flag .b ∧
    (s.aluFlags .sbc v1 v2).flag .i = s.flag .i

/-- R113: the flags of CMP8; H, P, B and I, every register and memory are unchanged, and C is not used.
(The range test of V and the byte N comes from are the spec's decision D7.) -/
def Obligations.CompareHelperFollowsItsRule : Prop :=
  ∀ (s : State) (v1 v2 : Byte) (R : Int), R = (v1.toNat : Int) - v2.toNat →
    s.cmpFlags v1 v2 = { s with psw := (s.cmpFlags v1 v2).psw } ∧
    (s.cmpFlags v1 v2).flag .c = decide (0 ≤ R) ∧
    ((s.cmpFlags v1 v2).flag .v = true ↔ R < -127 ∨ 127 < R) ∧
    (s.cmpFlags v1 v2).flag .z = (v1 == v2) ∧
    (s.cmpFlags v1 v2).flag .n = decide (0x80 ≤ (R % 0x10000).toNat % 0x100) ∧
    (s.cmpFlags v1 v2).flag .h = s.flag .h ∧ (s.cmpFlags v1 v2).flag .p = s.flag .p ∧
    (s.cmpFlags v1 v2).flag .b = s.flag .b ∧ (s.cmpFlags v1 v2).flag .i = s.flag .i

/-- R20, R111, R112: the H that ADC8 writes is the carry out of the low nibble; with C set before, the H that SBC8 writes
is the borrow into it. -/
def Obligations.HalfCarryIsNibbleCarry : Prop :=
  ∀ (s : State) (v1 v2 : Byte),
    ((s.aluFlags .adc v1 v2).flag .h = true ↔ 0xF < v1.toNat % 0x10 + v2.toNat % 0x10 + (s.flag .c).toNat) ∧
    (s.flag .c = true → ((s.aluFlags .sbc v1 v2).flag .h = true ↔ v1.toNat % 0x10 < v2.toNat % 0x10))

/-! ## 8-bit arithmetic and logic -/

/-- R114 to R122 and their like for AND, EOR, ADC, SBC: the 45 instructions whose destination is A. -/
def Obligations.AluOnAccumulator : Prop :=
  ∀ (op : Alu) (o : AccOperand) (s : State),
    exec (aluAInstr op o) s = .next { s with
      a := s.aluByte op s.a (s.sourceValue o.source), psw := s.aluPsw op s.a (s.sourceValue o.source),
      pc := s.pcAfter o.bytes, lastAddr := s.sourceAddr o.source }

/-- R123 to R125 and their like: the 15 OR, AND, EOR, ADC, SBC instructions whose destination is a byte of memory. -/
def Obligations.AluOnMemory : Prop :=
  ∀ (op : Alu) (f : MemForm) (s : State), ∃ t,
    exec (aluMemInstr op f) s = .next t ∧
    t = { s with psw := s.aluPsw op (s.modeValue f.dest) (s.sourceValue f.source),
                 pc := s.pcAfter f.bytes, lastAddr := (s.ea f.dest).toNat, mem := t.mem } ∧
    Stored s t (s.ea f.dest).toNat (s.aluByte op (s.modeValue f.dest) (s.sourceValue f.source))

/-- R150 to R161, R186 to R191: the 18 CMP instructions, on A, X, Y or a byte of memory, change flags (and PC and `last_addr`)
only. -/
def Obligations.CompareWritesFlagsOnly : Prop :=
  (∀ (o : AccOperand) (s : State), exec (cmpAInstr o) s = .next { s with
    psw := s.pswCmp s.a (s.sourceValue o.source), pc := s.pcAfter o.bytes, lastAddr := s.sourceAddr o.source }) ∧
  (∀ (o : IndexOperand) (s : State), exec (cmpXInstr o) s = .next { s with
    psw := s.pswCmp s.x (s.sourceValue o.acc.source), pc := s.pcAfter o.acc.bytes,
    lastAddr := s.sourceAddr o.acc.source }) ∧
  (∀ (o : IndexOperand) (s : State), exec (cmpYInstr o) s = .next { s with
    psw := s.pswCmp s.y (s.sourceValue o.acc.source), pc := s.pcAfter o.acc.bytes,
    lastAddr := s.sourceAddr o.acc.source }) ∧
  ∀ (f : MemForm) (s : State), exec (cmpMemInstr f) s = .next { s with
    psw := s.pswCmp (s.modeValue f.dest) (s.sourceValue f.source), pc := s.pcAfter f.bytes,
    lastAddr := (s.ea f.dest).toNat }

/-! ## Shifts, rotates, INC, DEC, XCN -/

/-- R192, R193: ASL, LSR, ROL, ROR, INC and DEC on a byte of memory, 18 instructions. -/
def Obligations.ShiftsAndStepsOnMemory : Prop :=
  ∀ (op : Rmw) (f : RmwForm) (s : State), ∃ t,
    exec (rmwMemInstr op f) s = .next t ∧
    t = { s with psw := s.rmwPsw op (s.modeValue f.mode), pc := s.pcAfter f.bytes,
                 lastAddr := (s.ea f.mode).toNat, mem := t.mem } ∧
    Stored s t (s.ea f.mode).toNat (s.rmwByte op (s.modeValue f.mode))

/-- R192, R193: the 10 instructions ASL A, LSR A, ROL A, ROR A, and INC and DEC of A, X and Y. -/
def Obligations.ShiftsAndStepsOnRegisters : Prop :=
  ∀ (i : Instr) (op : Rmw) (r : Reg), (i, op, r) ∈ rmwRegForms → ∀ s : State,
    exec i s = .next { s with
      a := if r = .a then s.rmwByte op s.a else s.a
      x := if r = .x then s.rmwByte op s.x else s.x
      y := if r = .y then s.rmwByte op s.y else s.y
      psw := s.rmwPsw op (s.reg r) }

/-- R222: XCN exchanges the nibbles of A and writes N and Z; its byte is 9F; twice restores A. (The spec takes XCN
from general knowledge, GK4.) -/
def Obligations.XcnSwapsNibbles : Prop :=
  encode .xcn = [0x9F] ∧
  (∀ (s : State) (r : Byte), r = BitVec.ofNat 8 (s.a.toNat / 0x10 + 0x10 * (s.a.toNat % 0x10)) →
    exec .xcn s = .next { s with a := r, psw := s.pswFrom8 r }) ∧
  ∀ s t u : State, exec .xcn s = .next t → exec .xcn t = .next u → u.a = s.a

/-! ## MOV -/

/-- R293, R294, R296 to R310: the 17 loads of A, X and Y. -/
def Obligations.LoadsSetRegisterAndNZ : Prop :=
  ∀ (f : LoadForm) (s : State) (v : Byte), v = s.sourceValue f.source →
    exec f.instr s = .next { s with
      a := if f.reg = .a then v else s.a
      x := if f.reg = .x then v else s.x
      y := if f.reg = .y then v else s.y
      psw := s.pswFrom8 v, pc := s.pcAfter f.bytes, lastAddr := s.sourceAddr f.source }

/-- R311, R313 to R325: the 14 stores of A, X and Y write the byte and no flag. -/
def Obligations.StoresWriteOneByte : Prop :=
  ∀ (f : StoreForm) (s : State), ∃ t,
    exec f.instr s = .next t ∧
    t = { s with pc := s.pcAfter f.bytes, lastAddr := (s.ea f.mode).toNat, mem := t.mem } ∧
    Stored s t (s.ea f.mode).toNat (s.reg f.reg)

/-- R94, R295, R312: the two auto-increment forms access the byte at `DP(X)` for the X before, then increment X. -/
def Obligations.AutoIncrementMoves : Prop :=
  (∀ (s : State) (v : Byte), v = s.peek (s.dp s.x).toNat →
    exec .movAXInc s = .next { s with
      a := v, x := BitVec.ofNat 8 (s.x.toNat + 1), psw := s.pswFrom8 v, lastAddr := (s.dp s.x).toNat }) ∧
  ∀ s : State, ∃ t, exec .movXIncA s = .next t ∧
    t = { s with x := BitVec.ofNat 8 (s.x.toNat + 1), lastAddr := (s.dp s.x).toNat, mem := t.mem } ∧
    Stored s t (s.dp s.x).toNat s.a

/-- R326 to R331: the six register moves; `MOV SP, X` alone writes no flag. -/
def Obligations.RegisterMoves : Prop :=
  ∀ s : State,
    exec .movAX s = .next { s with a := s.x, psw := s.pswFrom8 s.x } ∧
    exec .movAY s = .next { s with a := s.y, psw := s.pswFrom8 s.y } ∧
    exec .movXA s = .next { s with x := s.a, psw := s.pswFrom8 s.a } ∧
    exec .movYA s = .next { s with y := s.a, psw := s.pswFrom8 s.a } ∧
    exec .movXSp s = .next { s with x := s.sp, psw := s.pswFrom8 s.sp } ∧
    exec .movSpX s = .next { s with sp := s.x }

/-- R332, R333: `MOV dp, dp` and `MOV dp, #imm` store the source byte and write no flag. -/
def Obligations.DirectPageMoves : Prop :=
  (∀ (ss dd : Byte) (s : State), ∃ t, exec (.movDpDp ss dd) s = .next t ∧
    t = { s with pc := s.pcAfter 2, lastAddr := (s.dp dd).toNat, mem := t.mem } ∧
    Stored s t (s.dp dd).toNat (s.peek (s.dp ss).toNat)) ∧
  ∀ (ii dd : Byte) (s : State), ∃ t, exec (.movDpImm ii dd) s = .next t ∧
    t = { s with pc := s.pcAfter 2, lastAddr := (s.dp dd).toNat, mem := t.mem } ∧
    Stored s t (s.dp dd).toNat ii

/-! ## 16-bit instructions -/

/-- R224 to R227: MOVW in both directions, INCW and DECW, the stored bytes as WRITEWORD_MODE says (R38). -/
def Obligations.WordMoves : Prop :=
  ∀ (s : State) (dd : Byte) (ea : Nat) (w : Nat), ea = (s.dp dd).toNat →
    w = 0x100 * (s.peek (ea + 1)).toNat + (s.peek ea).toNat →
    exec (.movwYaDp dd) s = .next { s with
      y := s.peek (ea + 1), a := s.peek ea, psw := s.pswNZ (0x8000 ≤ w) (w == 0), pc := s.pcAfter 1,
      lastAddr := ea + 1 } ∧
    (∃ t, exec (.movwDpYa dd) s = .next t ∧
      t = { s with pc := s.pcAfter 1, lastAddr := s.highByteAddr ea, mem := t.mem } ∧
      Stored2 s t ea s.a (s.highByteAddr ea) s.y) ∧
    (∃ t, exec (.incw dd) s = .next t ∧
      t = { s with psw := s.pswFrom16 (BitVec.ofNat 16 (w + 1)), pc := s.pcAfter 1,
                   lastAddr := s.highByteAddr ea, mem := t.mem } ∧
      Stored2 s t ea (BitVec.ofNat 8 (w + 1)) (s.highByteAddr ea) (BitVec.ofNat 8 ((w + 1) / 0x100))) ∧
    ∃ t, exec (.decw dd) s = .next t ∧
      t = { s with psw := s.pswFrom16 (BitVec.ofNat 16 (w + 0xFFFF)), pc := s.pcAfter 1,
                   lastAddr := s.highByteAddr ea, mem := t.mem } ∧
      Stored2 s t ea (BitVec.ofNat 8 (w + 0xFFFF)) (s.highByteAddr ea) (BitVec.ofNat 8 ((w + 0xFFFF) / 0x100))

/-- R228: ADDW adds the word to YA without the carry flag, and writes C, H (in both modes, the spec's decision D5), V, N and
Z (the spec's GK5). -/
def Obligations.AddwFollowsItsRule : Prop :=
  (∀ dd : Byte, encode (.addw dd) = [0x7A, dd]) ∧
  ∀ (s : State) (dd : Byte) (a b r : Nat), a = 0x100 * s.y.toNat + s.a.toNat →
    b = 0x100 * (s.peek ((s.dp dd).toNat + 1)).toNat + (s.peek (s.dp dd).toNat).toNat → r = a + b →
    exec (.addw dd) s = .next { s with
      a := BitVec.ofNat 8 r, y := BitVec.ofNat 8 (r / 0x100), pc := s.pcAfter 1, lastAddr := (s.dp dd).toNat + 1,
      psw := s.pswNVHZC (0x8000 ≤ r % 0x10000) (((0xFFFF - (a ^^^ b)) &&& (a ^^^ r) &&& 0x8000) != 0)
        (if s.params.halfCarry16 = .intended then ((a ^^^ b ^^^ r) &&& 0x1000) != 0
          else (a ^^^ b ^^^ (r &&& 0x1000)) != 0)
        (r % 0x10000 == 0) (0xFFFF < r) }

/-- R229, R230: SUBW and CMPW subtract the word from YA without the carry flag; CMPW writes C, N and Z only (the
spec's GK5 and decision D5). -/
def Obligations.SubwAndCmpwFollowTheirRules : Prop :=
  (∀ dd : Byte, encode (.subw dd) = [0x9A, dd] ∧ encode (.cmpw dd) = [0x5A, dd]) ∧
  ∀ (s : State) (dd : Byte) (a b r17 : Nat), a = 0x100 * s.y.toNat + s.a.toNat →
    b = 0x100 * (s.peek ((s.dp dd).toNat + 1)).toNat + (s.peek (s.dp dd).toNat).toNat →
    r17 = (((a : Int) - b) % 0x20000).toNat →
    exec (.subw dd) s = .next { s with
      a := BitVec.ofNat 8 r17, y := BitVec.ofNat 8 (r17 / 0x100), pc := s.pcAfter 1,
      lastAddr := (s.dp dd).toNat + 1,
      psw := s.pswNVHZC (0x8000 ≤ r17 % 0x10000) (((a ^^^ b) &&& (a ^^^ r17) &&& 0x8000) != 0)
        (if s.params.halfCarry16 = .intended then ((a ^^^ b ^^^ r17) &&& 0x1000) != 0
          else (a ^^^ b ^^^ (r17 &&& 0x1000)) != 0)
        (r17 % 0x10000 == 0) (b ≤ a) } ∧
    exec (.cmpw dd) s = .next { s with
      pc := s.pcAfter 1, lastAddr := (s.dp dd).toNat + 1,
      psw := s.pswNZC (0x8000 ≤ r17 % 0x10000) (r17 % 0x10000 == 0) (b ≤ a) }

/-- R231: MUL leaves the product of Y and A in YA and takes N and Z from the new Y (the spec's GK5). -/
def Obligations.MulFollowsItsRule : Prop :=
  encode .mul = [0xCF] ∧
  ∀ (s : State) (p : Nat), p = s.y.toNat * s.a.toNat →
    exec .mul s = .next { s with
      a := BitVec.ofNat 8 p, y := BitVec.ofNat 8 (p / 0x100), psw := s.pswFrom8 (BitVec.ofNat 8 (p / 0x100)) }

/-- R232: DIV leaves the quotient (modulo 2^8) in A and the remainder in Y, or the pair that DIV_ZERO gives where X is 0,
and writes H, V, N and Z (the spec's decisions D4 and D15); it never traps. -/
def Obligations.DivFollowsItsRule : Prop :=
  encode .div = [0x9E] ∧
  ∀ (s : State) (ya : Nat), ya = 0x100 * s.y.toNat + s.a.toNat →
    ∃ a y : Byte, exec .div s = .next { s with
      a := a, y := y,
      psw := s.pswNVHZC (0x80 ≤ a.toNat) (ya / 0x100 % 2 == 1) (s.x.toNat % 0x10 ≤ s.y.toNat % 0x10)
        (a.toNat == 0) (s.flag .c) } ∧
      (s.x = 0 → (a, y) = divZeroResult s.params.divZero (BitVec.ofNat 16 ya)) ∧
      (s.x ≠ 0 → a = BitVec.ofNat 8 (ya / s.x.toNat) ∧ y.toNat = ya % s.x.toNat)

/-- R233, R234: DAA and DAS: two tests in order, the second on A as the first left it; DAA never clears C and DAS never
sets it (the spec's GK6). -/
def Obligations.DecimalAdjustments : Prop :=
  encode .daa = [0xDF] ∧ encode .das = [0xBE] ∧
  ∀ (s : State) (a1 a2 b1 b2 : Byte),
    a1 = (if s.flag .c = true ∨ 0x99 < s.a.toNat then BitVec.ofNat 8 (s.a.toNat + 0x60) else s.a) →
    a2 = (if s.flag .h = true ∨ 9 < a1.toNat % 0x10 then BitVec.ofNat 8 (a1.toNat + 0x06) else a1) →
    b1 = (if s.flag .c = false ∨ 0x99 < s.a.toNat then BitVec.ofNat 8 (s.a.toNat + 0xA0) else s.a) →
    b2 = (if s.flag .h = false ∨ 9 < b1.toNat % 0x10 then BitVec.ofNat 8 (b1.toNat + 0xFA) else b1) →
    exec .daa s = .next { s with
      a := a2, psw := s.pswNZC (0x80 ≤ a2.toNat) (a2.toNat == 0) (s.flag .c || decide (0x99 < s.a.toNat)) } ∧
    exec .das s = .next { s with
      a := b2, psw := s.pswNZC (0x80 ≤ b2.toNat) (b2.toNat == 0) (s.flag .c && !decide (0x99 < s.a.toNat)) }

/-- R358: DAA works after ADC8. For two bytes that hold decimal digits, ADC and then DAA leave the two decimal digits of
their sum in A and its hundreds in C. -/
def Obligations.DecimalAdditionIsCorrect : Prop :=
  ∀ (s : State) (x1 x0 y1 y0 : Nat), x1 < 10 → x0 < 10 → y1 < 10 → y0 < 10 →
    s.a = BitVec.ofNat 8 (0x10 * x1 + x0) →
    ∃ t u, exec (.adcAImm (BitVec.ofNat 8 (0x10 * y1 + y0))) s = .next t ∧ exec .daa t = .next u ∧
      100 * (u.flag .c).toNat + 10 * (u.a.toNat / 0x10) + u.a.toNat % 0x10 =
        10 * x1 + x0 + (10 * y1 + y0) + (s.flag .c).toNat ∧ u.a.toNat % 0x10 < 10 ∧ u.a.toNat / 0x10 < 10

/-! ## Branches and jumps -/

/-- R103, R235 to R243: BRA and the eight conditional branches always consume the displacement, and change
PC (and `last_addr`) alone. -/
def Obligations.ConditionalBranches : Prop :=
  ∀ (i : Byte → Instr) (cond : State → Bool), (i, cond) ∈ branchForms → ∀ (rr : Byte) (s : State),
    exec (i rr) s = .next { s with
      pc := if cond s then s.target 1 rr else s.pcAfter 1, lastAddr := s.pc.toNat }

/-- R244 to R247, R249: BBS, BBC, CBNE and `DBNZ Y` branch on a bit, on `A != byte`, on the decremented Y; no flag changes. -/
def Obligations.TestAndBranch : Prop :=
  (∀ (bit : Nat) (dd rr : Byte) (s : State), bit < 8 →
    exec (.bbs bit dd rr) s = .next { s with
      pc := if (s.peek (s.dp dd).toNat).toNat / 2 ^ bit % 2 = 1 then s.target 2 rr else s.pcAfter 2
      lastAddr := (s.pcAfter 1).toNat } ∧
    exec (.bbc bit dd rr) s = .next { s with
      pc := if (s.peek (s.dp dd).toNat).toNat / 2 ^ bit % 2 = 0 then s.target 2 rr else s.pcAfter 2
      lastAddr := (s.pcAfter 1).toNat }) ∧
  (∀ (dd rr : Byte) (s : State),
    exec (.cbneDp dd rr) s = .next { s with
      pc := if s.a ≠ s.peek (s.dp dd).toNat then s.target 2 rr else s.pcAfter 2
      lastAddr := (s.pcAfter 1).toNat } ∧
    exec (.cbneDpX dd rr) s = .next { s with
      pc := if s.a ≠ s.peek ((s.dp dd).toNat + s.x.toNat) then s.target 2 rr else s.pcAfter 2
      lastAddr := (s.pcAfter 1).toNat }) ∧
  ∀ (rr : Byte) (s : State) (v : Byte), v = BitVec.ofNat 8 (s.y.toNat + 0xFF) →
    exec (.dbnzY rr) s = .next { s with
      y := v, pc := if v ≠ 0 then s.target 1 rr else s.pcAfter 1, lastAddr := s.pc.toNat }

/-- R48, R248, R359: `DBNZ dp, rel` stores the decremented byte before it fetches the displacement, so the displacement it
uses is the byte memory then holds after the offset byte: the decremented one where `DP(d)` is that address. -/
def Obligations.DbnzMemoryFetchesAfterItsStore : Prop :=
  ∀ (dd rr : Byte) (s : State) (v : Byte), v = BitVec.ofNat 8 ((s.peek (s.dp dd).toNat).toNat + 0xFF) →
    ∃ t, exec (.dbnzDp dd rr) s = .next t ∧
      t = { s with
        pc := if v ≠ 0 then s.target 2 (if s.dp dd = s.pcAfter 1 then v else rr) else s.pcAfter 2
        lastAddr := (s.pcAfter 1).toNat, mem := t.mem } ∧
      Stored s t (s.dp dd).toNat v ∧
      (s.peek (s.pcAfter 1).toNat = rr → v ≠ 0 → t.pc = s.target 2 (t.peek (s.pcAfter 1).toNat))

/-- R106, R250, R251: the two jumps; the pointer of `JMP [!abs+X]` is a word read without wrap (R37). -/
def Obligations.JumpsLoadPc : Prop :=
  ∀ (addr : Word) (s : State) (p : Nat), p = (addr.toNat + s.x.toNat) % 0x10000 →
    exec (.jmpAbs addr) s = .next { s with pc := addr, lastAddr := (s.pcAfter 1).toNat } ∧
    exec (.jmpAbsXInd addr) s = .next { s with
      pc := BitVec.ofNat 16 (0x100 * (s.peek (p + 1)).toNat + (s.peek p).toNat), lastAddr := p + 1 }

/-! ## The stack -/

/-- R252, R262 to R265: the four PUSH instructions under both stack disciplines; no flag changes. -/
def Obligations.PushInstructions : Prop :=
  ∀ s : State,
    (∃ t, exec .pushA s = .next t ∧
      t = { s with sp := BitVec.ofNat 8 (s.sp.toNat + 0xFF), lastAddr := s.pushSlot 1, mem := t.mem } ∧
      Stored s t (s.pushSlot 1) s.a) ∧
    (∃ t, exec .pushX s = .next t ∧
      t = { s with sp := BitVec.ofNat 8 (s.sp.toNat + 0xFF), lastAddr := s.pushSlot 1, mem := t.mem } ∧
      Stored s t (s.pushSlot 1) s.x) ∧
    (∃ t, exec .pushY s = .next t ∧
      t = { s with sp := BitVec.ofNat 8 (s.sp.toNat + 0xFF), lastAddr := s.pushSlot 1, mem := t.mem } ∧
      Stored s t (s.pushSlot 1) s.y) ∧
    ∃ t, exec .pushPsw s = .next t ∧
      t = { s with sp := BitVec.ofNat 8 (s.sp.toNat + 0xFF), lastAddr := s.pushSlot 1, mem := t.mem } ∧
      Stored s t (s.pushSlot 1) s.psw

/-- R253, R266 to R269: the four POP instructions read the byte above SP, in both disciplines; only POP PSW changes flags,
all eight of them. -/
def Obligations.PopInstructions : Prop :=
  ∀ s : State,
    exec .popA s = .next { s with
      a := s.peek (s.popSlot 1), sp := BitVec.ofNat 8 (s.sp.toNat + 1), lastAddr := s.popSlot 1 } ∧
    exec .popX s = .next { s with
      x := s.peek (s.popSlot 1), sp := BitVec.ofNat 8 (s.sp.toNat + 1), lastAddr := s.popSlot 1 } ∧
    exec .popY s = .next { s with
      y := s.peek (s.popSlot 1), sp := BitVec.ofNat 8 (s.sp.toNat + 1), lastAddr := s.popSlot 1 } ∧
    exec .popPsw s = .next { s with
      psw := s.peek (s.popSlot 1), sp := BitVec.ofNat 8 (s.sp.toNat + 1), lastAddr := s.popSlot 1 }

/-- R254, R256 to R258: CALL, PCALL and TCALL push the address of the next instruction, in the order and at the places the
stack discipline says, and load PC with the operand, with 0xFF00 + u, or from the vector at 0xFFDE - 2n.
(The TCALL vector, D11, and the PCALL target, D13, are choices the spec marks as its own, GK7; log entry 9.) -/
def Obligations.CallsPushReturnAddress : Prop :=
  (∀ (addr : Word) (s : State), ∃ t, exec (.call addr) s = .next t ∧
    t = { s with pc := addr, sp := BitVec.ofNat 8 (s.sp.toNat + 0xFE), lastAddr := s.pushSlot 2, mem := t.mem } ∧
    PushedPC s t (s.pcAfter 2)) ∧
  (∀ (uu : Byte) (s : State), ∃ t, exec (.pcall uu) s = .next t ∧
    t = { s with pc := BitVec.ofNat 16 (0xFF00 + uu.toNat), sp := BitVec.ofNat 8 (s.sp.toNat + 0xFE),
                 lastAddr := s.pushSlot 2, mem := t.mem } ∧
    PushedPC s t (s.pcAfter 1)) ∧
  ∀ (n : Nat) (s : State), n < 16 → ∃ t, exec (.tcall n) s = .next t ∧
    t = { s with
      pc := BitVec.ofNat 16 (0x100 * (s.peek (0xFFDF - 2 * n)).toNat + (s.peek (0xFFDE - 2 * n)).toNat)
      sp := BitVec.ofNat 8 (s.sp.toNat + 0xFE), lastAddr := 0xFFDF - 2 * n, mem := t.mem } ∧
    PushedPC s t s.pc

/-- R259, R338: BRK pushes the return address and then the old PSW, sets B, clears I and loads PC from 0xFFDE
(the push order and the two flag writes are the spec's decision D12). -/
def Obligations.BrkTakesTheTrap : Prop :=
  encode .brk = [0x0F] ∧
  ∀ s : State, ∃ t, exec .brk s = .next t ∧
    t = { s with
      pc := BitVec.ofNat 16 (0x100 * (s.peek 0xFFDF).toNat + (s.peek 0xFFDE).toNat)
      psw := pswOf (s.flag .n) (s.flag .v) (s.flag .p) true (s.flag .h) false (s.flag .z) (s.flag .c)
      sp := BitVec.ofNat 8 (s.sp.toNat + 0xFD), lastAddr := 0xFFDF, mem := t.mem } ∧
    ∀ k, t.peek k =
      if k = s.pushSlot 3 then s.psw
      else if k = s.pushSlot 2 then s.secondPushed s.pc
      else if k = s.pushSlot 1 then s.firstPushed s.pc
      else s.peek k

/-- R255, R260, R261, R339: RET pops PC, low byte first; RETI pops all of PSW and then PC; memory is unchanged.
(RETI's order, D12, and the order of the two bytes of PC, D14, are choices the spec marks as its own; log entry 9.) -/
def Obligations.ReturnsPopPc : Prop :=
  encode .ret = [0x6F] ∧ encode .reti = [0x7F] ∧
  ∀ s : State,
    exec .ret s = .next { s with
      pc := BitVec.ofNat 16 (0x100 * (s.peek (s.popSlot 2)).toNat + (s.peek (s.popSlot 1)).toNat)
      sp := BitVec.ofNat 8 (s.sp.toNat + 2), lastAddr := s.popSlot 2 } ∧
    exec .reti s = .next { s with
      psw := s.peek (s.popSlot 1)
      pc := BitVec.ofNat 16 (0x100 * (s.peek (s.popSlot 3)).toNat + (s.peek (s.popSlot 2)).toNat)
      sp := BitVec.ofNat 8 (s.sp.toNat + 3), lastAddr := s.popSlot 3 }

/-- R354: every PUSH with every POP, every call with RET, and BRK with RETI, run one after the other. Under both disciplines
SP is back and the pushed bytes stand where they were stored. Under `chip` the popped register is the pushed one, RET and
RETI return to the return address, and PSW is back. Under `document` POP gives the byte that stood at SP before, RET and RETI
return to that byte over the low byte of the return address, and PSW becomes the high byte of the return address.(The
orders of BRK and RETI, D12, and of PopPC, D14, are choices the spec marks as its own; log entry 9.) -/
def Obligations.StackRoundTrips : Prop :=
  ∀ s : State,
    (∀ r r' : StackReg, ∃ t u, exec r.push s = .next t ∧ exec r'.pop t = .next u ∧ u.sp = s.sp ∧
      Stored s u (s.pushSlot 1) (s.stackReg r) ∧
      u.stackReg r' = if s.params.stackDiscipline = .chip then s.stackReg r else s.peek (0x100 + s.sp.toNat)) ∧
    (∀ f : CallForm, ∃ t u, exec f.instr s = .next t ∧ exec .ret t = .next u ∧ u.sp = s.sp ∧
      PushedPC s u (s.pcAfter f.bytes) ∧
      u.pc.toNat =
        if s.params.stackDiscipline = .chip then (s.pcAfter f.bytes).toNat
        else 0x100 * (s.peek (0x100 + s.sp.toNat)).toNat + (s.pcAfter f.bytes).toNat % 0x100) ∧
    ∃ t u, exec .brk s = .next t ∧ exec .reti t = .next u ∧ u.sp = s.sp ∧
      (∀ k, u.peek k =
        if k = s.pushSlot 3 then s.psw
        else if k = s.pushSlot 2 then s.secondPushed s.pc
        else if k = s.pushSlot 1 then s.firstPushed s.pc
        else s.peek k) ∧
      (u.psw = if s.params.stackDiscipline = .chip then s.psw else BitVec.ofNat 8 (s.pc.toNat / 0x100)) ∧
      u.pc.toNat =
        if s.params.stackDiscipline = .chip then s.pc.toNat
        else 0x100 * (s.peek (0x100 + s.sp.toNat)).toNat + s.pc.toNat % 0x100

/-! ## Bits and flags -/

/-- R270 to R273: SET1 and CLR1 write one bit of a direct-page byte and no flag; TSET1 and TCLR1 write the byte under the
mask A, and N and Z from A minus the old byte. -/
def Obligations.BitsOfMemoryBytes : Prop :=
  (∀ (bit : Nat) (dd : Byte) (s : State), bit < 8 →
    (∃ t, exec (.set1 bit dd) s = .next t ∧
      t = { s with pc := s.pcAfter 1, lastAddr := (s.dp dd).toNat, mem := t.mem } ∧
      Stored s t (s.dp dd).toNat (BitVec.ofNat 8 ((s.peek (s.dp dd).toNat).toNat ||| 2 ^ bit))) ∧
    ∃ t, exec (.clr1 bit dd) s = .next t ∧
      t = { s with pc := s.pcAfter 1, lastAddr := (s.dp dd).toNat, mem := t.mem } ∧
      Stored s t (s.dp dd).toNat (BitVec.ofNat 8 ((s.peek (s.dp dd).toNat).toNat &&& (0xFF - 2 ^ bit)))) ∧
  ∀ (addr : Word) (s : State) (v : Byte), v = s.peek addr.toNat →
    (∃ t, exec (.tset1 addr) s = .next t ∧
      t = { s with psw := s.pswFrom8 (s.a - v), pc := s.pcAfter 2, lastAddr := addr.toNat, mem := t.mem } ∧
      Stored s t addr.toNat (BitVec.ofNat 8 (v.toNat ||| s.a.toNat))) ∧
    ∃ t, exec (.tclr1 addr) s = .next t ∧
      t = { s with psw := s.pswFrom8 (s.a - v), pc := s.pcAfter 2, lastAddr := addr.toNat, mem := t.mem } ∧
      Stored s t addr.toNat (BitVec.ofNat 8 (v.toNat &&& (0xFF - s.a.toNat)))

/-- R274 to R279: the six instructions that combine a bit of memory with C write C alone. -/
def Obligations.CarryBitInstructions : Prop :=
  ∀ (bit : Nat) (addr : BitVec 13) (s : State) (b c : Bool), bit < 8 →
    b = ((s.peek addr.toNat).toNat / 2 ^ bit % 2 == 1) → c = s.flag .c →
    ∀ (i : Instr) (c' : Bool),
      (i, c') ∈ [(Instr.and1CMem bit addr, c && b), (.and1CNotMem bit addr, c && !b), (.or1CMem bit addr, c || b),
        (.or1CNotMem bit addr, c || !b), (.eor1CMem bit addr, c != b), (.mov1CMem bit addr, b)] →
      exec i s = .next { s with
        psw := s.pswNZC (s.flag .n) (s.flag .z) c', pc := s.pcAfter 2, lastAddr := addr.toNat }

/-- R280, R281: NOT1 complements a bit of memory and `MOV1 mem.bit, C` writes it from C; no flag changes. -/
def Obligations.MemoryBitInstructions : Prop :=
  ∀ (bit : Nat) (addr : BitVec 13) (s : State) (v : Nat), bit < 8 → v = (s.peek addr.toNat).toNat →
    (∃ t, exec (.not1 bit addr) s = .next t ∧
      t = { s with pc := s.pcAfter 2, lastAddr := addr.toNat, mem := t.mem } ∧
      Stored s t addr.toNat (BitVec.ofNat 8 (v ^^^ 2 ^ bit))) ∧
    ∃ t, exec (.mov1MemC bit addr) s = .next t ∧
      t = { s with pc := s.pcAfter 2, lastAddr := addr.toNat, mem := t.mem } ∧
      Stored s t addr.toNat
        (BitVec.ofNat 8 (if s.flag .c then v ||| 2 ^ bit else v &&& (0xFF - 2 ^ bit)))

/-- R282 to R292: each flag instruction writes its one flag; NOP, SLEEP and STOP change nothing. -/
def Obligations.FlagInstructions : Prop :=
  ∀ (s : State) (n v p b h i z c : Bool), s.psw = pswOf n v p b h i z c →
    exec .clrc s = .next { s with psw := pswOf n v p b h i z false } ∧
    exec .setc s = .next { s with psw := pswOf n v p b h i z true } ∧
    exec .notc s = .next { s with psw := pswOf n v p b h i z !c } ∧
    exec .clrv s = .next { s with psw := pswOf n false p b h i z c } ∧
    exec .clrp s = .next { s with psw := pswOf n v false b h i z c } ∧
    exec .setp s = .next { s with psw := pswOf n v true b h i z c } ∧
    exec .ei s = .next { s with psw := pswOf n v p b h true z c } ∧
    exec .di s = .next { s with psw := pswOf n v p b h false z c } ∧
    exec .nop s = .next s ∧ exec .sleep s = .next s ∧ exec .stop s = .next s
end

