-- ==== Sys2Proof/Laws/Decode.lean ====
section
/-! SUPPORT. The operand words of the encodings, in both directions, and the decoder as the row that selects the opcode
byte. -/

namespace Sys2Proof

/-! ## Operand words -/

/-- An operand word as a number (R75, R76). -/
theorem operandWord_toNat (ll hh : Byte) : (operandWord ll hh).toNat = 0x100 * hh.toNat + ll.toNat := by
  have := ll.isLt
  simp only [operandWord, BitVec.toNat_append]
  rw [← Nat.shiftLeft_add_eq_or_of_lt (by simpa using this), Nat.shiftLeft_eq]
  omega

/-- The operand word of a word's two encoded bytes is that word. -/
theorem operandWord_bytes (w : Word) : operandWord (w.extractLsb' 0 8) (w.extractLsb' 8 8) = w := by
  have := w.isLt
  apply BitVec.eq_of_toNat_eq
  rw [operandWord_toNat]
  simp [Nat.shiftRight_eq_div_pow]
  omega

/-- The encoded bytes of an operand word are the two bytes it was read from. -/
theorem encodeWord_operandWord (ll hh : Byte) : encodeWord (operandWord ll hh) = [ll, hh] := by
  have e := operandWord_toNat ll hh
  have h1 := ll.isLt
  have h2 := hh.isLt
  have lo : (operandWord ll hh).extractLsb' 0 8 = ll := by
    apply BitVec.eq_of_toNat_eq; simp [e]; omega
  have hi : (operandWord ll hh).extractLsb' 8 8 = hh := by
    apply BitVec.eq_of_toNat_eq; simp [e, Nat.shiftRight_eq_div_pow]; omega
  rw [encodeWord, lo, hi]

/-- A mem.bit operand word as a number (R77). -/
theorem memBitWord_toNat (b3 : BitVec 3) (addr : BitVec 13) :
    (b3 ++ addr : BitVec (3 + 13)).toNat = 0x2000 * b3.toNat + addr.toNat := by
  rw [BitVec.toNat_append, ← Nat.shiftLeft_add_eq_or_of_lt addr.isLt, Nat.shiftLeft_eq]
  omega

/-- The bit number of an encoded mem.bit operand (R77). -/
theorem memBitNumber_word {bit : Nat} (h : bit < 8) (addr : BitVec 13) :
    memBitNumber (BitVec.ofNat 3 bit ++ addr : BitVec (3 + 13)) = bit := by
  have := addr.isLt
  simp only [memBitNumber, BitVec.extractLsb'_toNat]
  rw [memBitWord_toNat (BitVec.ofNat 3 bit) addr, Nat.shiftRight_eq_div_pow]
  simp
  omega

/-- The address of an encoded mem.bit operand (R77). -/
theorem memBitAddress_word (bit : Nat) (addr : BitVec 13) :
    memBitAddress (BitVec.ofNat 3 bit ++ addr : BitVec (3 + 13)) = addr := by
  have := addr.isLt
  apply BitVec.eq_of_toNat_eq
  simp only [memBitAddress, BitVec.extractLsb'_toNat, Nat.shiftRight_zero]
  rw [memBitWord_toNat (BitVec.ofNat 3 bit) addr]
  omega

/-- Encoding the bit number and the address of a mem.bit operand word gives the word's bytes (R77). -/
theorem encodeMemBit_word (w : Word) : encodeMemBit (memBitNumber w) (memBitAddress w) = encodeWord w := by
  have := w.isLt
  simp only [encodeMemBit]
  congr 1
  apply BitVec.eq_of_toNat_eq
  refine (memBitWord_toNat _ _).trans ?_
  simp only [memBitNumber, memBitAddress, BitVec.extractLsb'_toNat, BitVec.toNat_ofNat, Nat.shiftRight_eq_div_pow]
  omega

/-- The bit number read from a mem.bit operand word is at most 7. -/
theorem memBitNumber_ok (w : Word) : bitOk (memBitNumber w) = true := decide_eq_true (w.extractLsb' 13 3).isLt

/-- The bit number read from an opcode byte is at most 7. -/
theorem opcodeBit_ok (op : Byte) : bitOk (opcodeBit op) = true := decide_eq_true (op.extractLsb' 5 3).isLt

/-- The index read from an opcode byte is at most 15. -/
theorem opcodeIndex_ok (op : Byte) : tcallOk (opcodeIndex op) = true := decide_eq_true (op.extractLsb' 4 4).isLt

/-! ## Rows -/

/-- Every opcode byte has a row (R80). -/
theorem rowOf_isSome (op : Byte) : (rowOf op).isSome = true := by
  revert op; decide +kernel

/-- What the decoder answers where a row selects the opcode byte and the operand bytes are there. -/
theorem decode_of_row {op : Byte} {r : Row} (h : rowOf op = some r) {bytes : List Byte}
    (hl : r.length ≤ bytes.length + 1) :
    decode (op :: bytes) = .ok (r.build op (bytes.getD 0 0) (bytes.getD 1 0), bytes.drop (r.length - 1)) := by
  simp only [decode, h]
  rw [if_neg (by omega)]

/-- Decoding three bytes of an instruction stream and reading them as the step does agree. -/
theorem decodeBytes_of_decode {op b1 b2 : Byte} {i : Instr} {rest : List Byte}
    (h : decode [op, b1, b2] = .ok (i, rest)) : decodeBytes op b1 b2 = some i := by
  unfold decode at h
  cases hr : rowOf op with
  | none => simp [hr] at h
  | some r =>
    simp only [hr] at h
    split at h
    · simp at h
    · simp only [Except.ok.injEq, Prod.mk.injEq] at h
      simp [decodeBytes, hr, ← h.1]

end Sys2Proof
end

