-- ==== Sys2Proof/Laws/State.lean ====
section
/-! SUPPORT. One lemma for each field of `State` under each named update, so that no proof unfolds a record update. -/

namespace Sys2Proof.Machine

/-! ### `touch` -/

@[simp] theorem State.touch_a (s : State) (k : Nat) : (s.touch k).a = s.a := rfl
@[simp] theorem State.touch_x (s : State) (k : Nat) : (s.touch k).x = s.x := rfl
@[simp] theorem State.touch_y (s : State) (k : Nat) : (s.touch k).y = s.y := rfl
@[simp] theorem State.touch_sp (s : State) (k : Nat) : (s.touch k).sp = s.sp := rfl
@[simp] theorem State.touch_psw (s : State) (k : Nat) : (s.touch k).psw = s.psw := rfl
@[simp] theorem State.touch_pc (s : State) (k : Nat) : (s.touch k).pc = s.pc := rfl
@[simp] theorem State.touch_mem (s : State) (k : Nat) : (s.touch k).mem = s.mem := rfl
@[simp] theorem State.touch_lastAddr (s : State) (k : Nat) : (s.touch k).lastAddr = k := rfl
@[simp] theorem State.touch_params (s : State) (k : Nat) : (s.touch k).params = s.params := rfl

@[simp] theorem State.touch_peek (s : State) (k : Nat) (j : Nat) : (s.touch k).peek j = s.peek j := by
  simp [State.peek]
@[simp] theorem State.touch_peekWord (s : State) (k : Nat) (j : Nat) : (s.touch k).peekWord j = s.peekWord j := by
  simp [State.peekWord]
@[simp] theorem State.touch_flag (s : State) (k : Nat) (g : Flag) : (s.touch k).flag g = s.flag g := by
  simp [State.flag]
@[simp] theorem State.touch_dp (s : State) (k : Nat) (d : Byte) : (s.touch k).dp d = s.dp d := by
  simp [State.dp]
@[simp] theorem State.touch_reg (s : State) (k : Nat) (q : Reg) : (s.touch k).reg q = s.reg q := by
  cases q <;> simp [State.reg]
@[simp] theorem State.touch_ea (s : State) (k : Nat) (q : Mode) : (s.touch k).ea q = s.ea q := by
  cases q <;> simp [State.ea]

/-! ### `touchWord` -/

@[simp] theorem State.touchWord_a (s : State) (k : Nat) : (s.touchWord k).a = s.a := by simp [State.touchWord]
@[simp] theorem State.touchWord_x (s : State) (k : Nat) : (s.touchWord k).x = s.x := by simp [State.touchWord]
@[simp] theorem State.touchWord_y (s : State) (k : Nat) : (s.touchWord k).y = s.y := by simp [State.touchWord]
@[simp] theorem State.touchWord_sp (s : State) (k : Nat) : (s.touchWord k).sp = s.sp := by simp [State.touchWord]
@[simp] theorem State.touchWord_psw (s : State) (k : Nat) : (s.touchWord k).psw = s.psw := by simp [State.touchWord]
@[simp] theorem State.touchWord_pc (s : State) (k : Nat) : (s.touchWord k).pc = s.pc := by simp [State.touchWord]
@[simp] theorem State.touchWord_mem (s : State) (k : Nat) : (s.touchWord k).mem = s.mem := by simp [State.touchWord]
@[simp] theorem State.touchWord_lastAddr (s : State) (k : Nat) : (s.touchWord k).lastAddr = k + 1 := by simp [State.touchWord]
@[simp] theorem State.touchWord_params (s : State) (k : Nat) : (s.touchWord k).params = s.params := by simp [State.touchWord]

@[simp] theorem State.touchWord_peek (s : State) (k : Nat) (j : Nat) : (s.touchWord k).peek j = s.peek j := by
  simp [State.peek]
@[simp] theorem State.touchWord_peekWord (s : State) (k : Nat) (j : Nat) : (s.touchWord k).peekWord j = s.peekWord j := by
  simp [State.peekWord]
@[simp] theorem State.touchWord_flag (s : State) (k : Nat) (g : Flag) : (s.touchWord k).flag g = s.flag g := by
  simp [State.flag]
@[simp] theorem State.touchWord_dp (s : State) (k : Nat) (d : Byte) : (s.touchWord k).dp d = s.dp d := by
  simp [State.dp]
@[simp] theorem State.touchWord_reg (s : State) (k : Nat) (q : Reg) : (s.touchWord k).reg q = s.reg q := by
  cases q <;> simp [State.reg]
@[simp] theorem State.touchWord_ea (s : State) (k : Nat) (q : Mode) : (s.touchWord k).ea q = s.ea q := by
  cases q <;> simp [State.ea]

/-! ### `memWrite` -/

@[simp] theorem State.memWrite_a (s : State) (k : Nat) (v : Byte) : (s.memWrite k v).a = s.a := rfl
@[simp] theorem State.memWrite_x (s : State) (k : Nat) (v : Byte) : (s.memWrite k v).x = s.x := rfl
@[simp] theorem State.memWrite_y (s : State) (k : Nat) (v : Byte) : (s.memWrite k v).y = s.y := rfl
@[simp] theorem State.memWrite_sp (s : State) (k : Nat) (v : Byte) : (s.memWrite k v).sp = s.sp := rfl
@[simp] theorem State.memWrite_psw (s : State) (k : Nat) (v : Byte) : (s.memWrite k v).psw = s.psw := rfl
@[simp] theorem State.memWrite_pc (s : State) (k : Nat) (v : Byte) : (s.memWrite k v).pc = s.pc := rfl
@[simp] theorem State.memWrite_mem (s : State) (k : Nat) (v : Byte) :
    (s.memWrite k v).mem = if k ≤ 0xFFFF then s.mem.store k v else s.mem := rfl
@[simp] theorem State.memWrite_lastAddr (s : State) (k : Nat) (v : Byte) : (s.memWrite k v).lastAddr = k := rfl
@[simp] theorem State.memWrite_params (s : State) (k : Nat) (v : Byte) : (s.memWrite k v).params = s.params := rfl

@[simp] theorem State.memWrite_flag (s : State) (k : Nat) (v : Byte) (g : Flag) : (s.memWrite k v).flag g = s.flag g := by
  simp [State.flag]
@[simp] theorem State.memWrite_dp (s : State) (k : Nat) (v : Byte) (d : Byte) : (s.memWrite k v).dp d = s.dp d := by
  simp [State.dp]
@[simp] theorem State.memWrite_reg (s : State) (k : Nat) (v : Byte) (q : Reg) : (s.memWrite k v).reg q = s.reg q := by
  cases q <;> simp [State.reg]

/-! ### `writeWord` -/

@[simp] theorem State.writeWord_a (s : State) (k : Nat) (w : Word) : (s.writeWord k w).a = s.a := by simp [State.writeWord]
@[simp] theorem State.writeWord_x (s : State) (k : Nat) (w : Word) : (s.writeWord k w).x = s.x := by simp [State.writeWord]
@[simp] theorem State.writeWord_y (s : State) (k : Nat) (w : Word) : (s.writeWord k w).y = s.y := by simp [State.writeWord]
@[simp] theorem State.writeWord_sp (s : State) (k : Nat) (w : Word) : (s.writeWord k w).sp = s.sp := by simp [State.writeWord]
@[simp] theorem State.writeWord_psw (s : State) (k : Nat) (w : Word) : (s.writeWord k w).psw = s.psw := by simp [State.writeWord]
@[simp] theorem State.writeWord_pc (s : State) (k : Nat) (w : Word) : (s.writeWord k w).pc = s.pc := by simp [State.writeWord]
@[simp] theorem State.writeWord_lastAddr (s : State) (k : Nat) (w : Word) : (s.writeWord k w).lastAddr = s.highByteAddr k := by simp [State.writeWord]
@[simp] theorem State.writeWord_params (s : State) (k : Nat) (w : Word) : (s.writeWord k w).params = s.params := by simp [State.writeWord]

@[simp] theorem State.writeWord_flag (s : State) (k : Nat) (w : Word) (g : Flag) : (s.writeWord k w).flag g = s.flag g := by
  simp [State.flag]
@[simp] theorem State.writeWord_dp (s : State) (k : Nat) (w : Word) (d : Byte) : (s.writeWord k w).dp d = s.dp d := by
  simp [State.dp]
@[simp] theorem State.writeWord_reg (s : State) (k : Nat) (w : Word) (q : Reg) : (s.writeWord k w).reg q = s.reg q := by
  cases q <;> simp [State.reg]

/-! ### `setYA` -/

@[simp] theorem State.setYA_a (s : State) (w : Word) : (s.setYA w).a = lowByte w := rfl
@[simp] theorem State.setYA_x (s : State) (w : Word) : (s.setYA w).x = s.x := rfl
@[simp] theorem State.setYA_y (s : State) (w : Word) : (s.setYA w).y = highByte w := rfl
@[simp] theorem State.setYA_sp (s : State) (w : Word) : (s.setYA w).sp = s.sp := rfl
@[simp] theorem State.setYA_psw (s : State) (w : Word) : (s.setYA w).psw = s.psw := rfl
@[simp] theorem State.setYA_pc (s : State) (w : Word) : (s.setYA w).pc = s.pc := rfl
@[simp] theorem State.setYA_mem (s : State) (w : Word) : (s.setYA w).mem = s.mem := rfl
@[simp] theorem State.setYA_lastAddr (s : State) (w : Word) : (s.setYA w).lastAddr = s.lastAddr := rfl
@[simp] theorem State.setYA_params (s : State) (w : Word) : (s.setYA w).params = s.params := rfl

@[simp] theorem State.setYA_peek (s : State) (w : Word) (j : Nat) : (s.setYA w).peek j = s.peek j := by
  simp [State.peek]
@[simp] theorem State.setYA_peekWord (s : State) (w : Word) (j : Nat) : (s.setYA w).peekWord j = s.peekWord j := by
  simp [State.peekWord]
@[simp] theorem State.setYA_flag (s : State) (w : Word) (g : Flag) : (s.setYA w).flag g = s.flag g := by
  simp [State.flag]
@[simp] theorem State.setYA_dp (s : State) (w : Word) (d : Byte) : (s.setYA w).dp d = s.dp d := by
  simp [State.dp]

/-! ### `setFlag` -/

@[simp] theorem State.setFlag_a (s : State) (f : Flag) (v : Bool) : (s.setFlag f v).a = s.a := rfl
@[simp] theorem State.setFlag_x (s : State) (f : Flag) (v : Bool) : (s.setFlag f v).x = s.x := rfl
@[simp] theorem State.setFlag_y (s : State) (f : Flag) (v : Bool) : (s.setFlag f v).y = s.y := rfl
@[simp] theorem State.setFlag_sp (s : State) (f : Flag) (v : Bool) : (s.setFlag f v).sp = s.sp := rfl
@[simp] theorem State.setFlag_psw (s : State) (f : Flag) (v : Bool) : (s.setFlag f v).psw = withBit s.psw f.bit v := rfl
@[simp] theorem State.setFlag_pc (s : State) (f : Flag) (v : Bool) : (s.setFlag f v).pc = s.pc := rfl
@[simp] theorem State.setFlag_mem (s : State) (f : Flag) (v : Bool) : (s.setFlag f v).mem = s.mem := rfl
@[simp] theorem State.setFlag_lastAddr (s : State) (f : Flag) (v : Bool) : (s.setFlag f v).lastAddr = s.lastAddr := rfl
@[simp] theorem State.setFlag_params (s : State) (f : Flag) (v : Bool) : (s.setFlag f v).params = s.params := rfl

@[simp] theorem State.setFlag_peek (s : State) (f : Flag) (v : Bool) (j : Nat) : (s.setFlag f v).peek j = s.peek j := by
  simp [State.peek]
@[simp] theorem State.setFlag_peekWord (s : State) (f : Flag) (v : Bool) (j : Nat) : (s.setFlag f v).peekWord j = s.peekWord j := by
  simp [State.peekWord]
@[simp] theorem State.setFlag_reg (s : State) (f : Flag) (v : Bool) (q : Reg) : (s.setFlag f v).reg q = s.reg q := by
  cases q <;> simp [State.reg]

/-! ### `fetch8` -/

@[simp] theorem State.fetch8_a (s : State) : (s.fetch8).a = s.a := rfl
@[simp] theorem State.fetch8_x (s : State) : (s.fetch8).x = s.x := rfl
@[simp] theorem State.fetch8_y (s : State) : (s.fetch8).y = s.y := rfl
@[simp] theorem State.fetch8_sp (s : State) : (s.fetch8).sp = s.sp := rfl
@[simp] theorem State.fetch8_psw (s : State) : (s.fetch8).psw = s.psw := rfl
@[simp] theorem State.fetch8_pc (s : State) : (s.fetch8).pc = s.pc + 1 := rfl
@[simp] theorem State.fetch8_mem (s : State) : (s.fetch8).mem = s.mem := rfl
@[simp] theorem State.fetch8_lastAddr (s : State) : (s.fetch8).lastAddr = s.pc.toNat := rfl
@[simp] theorem State.fetch8_params (s : State) : (s.fetch8).params = s.params := rfl

@[simp] theorem State.fetch8_peek (s : State) (j : Nat) : (s.fetch8).peek j = s.peek j := by
  simp [State.peek]
@[simp] theorem State.fetch8_peekWord (s : State) (j : Nat) : (s.fetch8).peekWord j = s.peekWord j := by
  simp [State.peekWord]
@[simp] theorem State.fetch8_flag (s : State) (g : Flag) : (s.fetch8).flag g = s.flag g := by
  simp [State.flag]
@[simp] theorem State.fetch8_dp (s : State) (d : Byte) : (s.fetch8).dp d = s.dp d := by
  simp [State.dp]
@[simp] theorem State.fetch8_reg (s : State) (q : Reg) : (s.fetch8).reg q = s.reg q := by
  cases q <;> simp [State.reg]
@[simp] theorem State.fetch8_ea (s : State) (q : Mode) : (s.fetch8).ea q = s.ea q := by
  cases q <;> simp [State.ea]

/-! ### `fetch16` -/

@[simp] theorem State.fetch16_a (s : State) : (s.fetch16).a = s.a := by simp [State.fetch16]
@[simp] theorem State.fetch16_x (s : State) : (s.fetch16).x = s.x := by simp [State.fetch16]
@[simp] theorem State.fetch16_y (s : State) : (s.fetch16).y = s.y := by simp [State.fetch16]
@[simp] theorem State.fetch16_sp (s : State) : (s.fetch16).sp = s.sp := by simp [State.fetch16]
@[simp] theorem State.fetch16_psw (s : State) : (s.fetch16).psw = s.psw := by simp [State.fetch16]
@[simp] theorem State.fetch16_pc (s : State) : (s.fetch16).pc = s.pc + 1 + 1 := by simp [State.fetch16]
@[simp] theorem State.fetch16_mem (s : State) : (s.fetch16).mem = s.mem := by simp [State.fetch16]
@[simp] theorem State.fetch16_lastAddr (s : State) : (s.fetch16).lastAddr = (s.pc + 1).toNat := by simp [State.fetch16]
@[simp] theorem State.fetch16_params (s : State) : (s.fetch16).params = s.params := by simp [State.fetch16]

@[simp] theorem State.fetch16_peek (s : State) (j : Nat) : (s.fetch16).peek j = s.peek j := by
  simp [State.peek]
@[simp] theorem State.fetch16_peekWord (s : State) (j : Nat) : (s.fetch16).peekWord j = s.peekWord j := by
  simp [State.peekWord]
@[simp] theorem State.fetch16_flag (s : State) (g : Flag) : (s.fetch16).flag g = s.flag g := by
  simp [State.flag]
@[simp] theorem State.fetch16_dp (s : State) (d : Byte) : (s.fetch16).dp d = s.dp d := by
  simp [State.dp]
@[simp] theorem State.fetch16_reg (s : State) (q : Reg) : (s.fetch16).reg q = s.reg q := by
  cases q <;> simp [State.reg]
@[simp] theorem State.fetch16_ea (s : State) (q : Mode) : (s.fetch16).ea q = s.ea q := by
  cases q <;> simp [State.ea]

/-! ### `jump` -/

@[simp] theorem State.jump_a (s : State) (w : Word) : (s.jump w).a = s.a := rfl
@[simp] theorem State.jump_x (s : State) (w : Word) : (s.jump w).x = s.x := rfl
@[simp] theorem State.jump_y (s : State) (w : Word) : (s.jump w).y = s.y := rfl
@[simp] theorem State.jump_sp (s : State) (w : Word) : (s.jump w).sp = s.sp := rfl
@[simp] theorem State.jump_psw (s : State) (w : Word) : (s.jump w).psw = s.psw := rfl
@[simp] theorem State.jump_pc (s : State) (w : Word) : (s.jump w).pc = w := rfl
@[simp] theorem State.jump_mem (s : State) (w : Word) : (s.jump w).mem = s.mem := rfl
@[simp] theorem State.jump_lastAddr (s : State) (w : Word) : (s.jump w).lastAddr = s.lastAddr := rfl
@[simp] theorem State.jump_params (s : State) (w : Word) : (s.jump w).params = s.params := rfl

@[simp] theorem State.jump_peek (s : State) (w : Word) (j : Nat) : (s.jump w).peek j = s.peek j := by
  simp [State.peek]
@[simp] theorem State.jump_peekWord (s : State) (w : Word) (j : Nat) : (s.jump w).peekWord j = s.peekWord j := by
  simp [State.peekWord]
@[simp] theorem State.jump_flag (s : State) (w : Word) (g : Flag) : (s.jump w).flag g = s.flag g := by
  simp [State.flag]
@[simp] theorem State.jump_dp (s : State) (w : Word) (d : Byte) : (s.jump w).dp d = s.dp d := by
  simp [State.dp]
@[simp] theorem State.jump_reg (s : State) (w : Word) (q : Reg) : (s.jump w).reg q = s.reg q := by
  cases q <;> simp [State.reg]
@[simp] theorem State.jump_ea (s : State) (w : Word) (q : Mode) : (s.jump w).ea q = s.ea q := by
  cases q <;> simp [State.ea]

/-! ### `jumpVector` -/

@[simp] theorem State.jumpVector_a (s : State) (k : Nat) : (s.jumpVector k).a = s.a := by simp [State.jumpVector]
@[simp] theorem State.jumpVector_x (s : State) (k : Nat) : (s.jumpVector k).x = s.x := by simp [State.jumpVector]
@[simp] theorem State.jumpVector_y (s : State) (k : Nat) : (s.jumpVector k).y = s.y := by simp [State.jumpVector]
@[simp] theorem State.jumpVector_sp (s : State) (k : Nat) : (s.jumpVector k).sp = s.sp := by simp [State.jumpVector]
@[simp] theorem State.jumpVector_psw (s : State) (k : Nat) : (s.jumpVector k).psw = s.psw := by simp [State.jumpVector]
@[simp] theorem State.jumpVector_pc (s : State) (k : Nat) : (s.jumpVector k).pc = s.peekWord k := by simp [State.jumpVector]
@[simp] theorem State.jumpVector_mem (s : State) (k : Nat) : (s.jumpVector k).mem = s.mem := by simp [State.jumpVector]
@[simp] theorem State.jumpVector_lastAddr (s : State) (k : Nat) : (s.jumpVector k).lastAddr = k + 1 := by simp [State.jumpVector]
@[simp] theorem State.jumpVector_params (s : State) (k : Nat) : (s.jumpVector k).params = s.params := by simp [State.jumpVector]

@[simp] theorem State.jumpVector_peek (s : State) (k : Nat) (j : Nat) : (s.jumpVector k).peek j = s.peek j := by
  simp [State.peek]
@[simp] theorem State.jumpVector_peekWord (s : State) (k : Nat) (j : Nat) : (s.jumpVector k).peekWord j = s.peekWord j := by
  simp [State.peekWord]
@[simp] theorem State.jumpVector_flag (s : State) (k : Nat) (g : Flag) : (s.jumpVector k).flag g = s.flag g := by
  simp [State.flag]
@[simp] theorem State.jumpVector_dp (s : State) (k : Nat) (d : Byte) : (s.jumpVector k).dp d = s.dp d := by
  simp [State.dp]
@[simp] theorem State.jumpVector_reg (s : State) (k : Nat) (q : Reg) : (s.jumpVector k).reg q = s.reg q := by
  cases q <;> simp [State.reg]
@[simp] theorem State.jumpVector_ea (s : State) (k : Nat) (q : Mode) : (s.jumpVector k).ea q = s.ea q := by
  cases q <;> simp [State.ea]

/-! ### `pop8` -/

@[simp] theorem State.pop8_a (s : State) : (s.pop8).a = s.a := by simp [State.pop8]
@[simp] theorem State.pop8_x (s : State) : (s.pop8).x = s.x := by simp [State.pop8]
@[simp] theorem State.pop8_y (s : State) : (s.pop8).y = s.y := by simp [State.pop8]
@[simp] theorem State.pop8_sp (s : State) : (s.pop8).sp = s.sp + 1 := by simp [State.pop8]
@[simp] theorem State.pop8_psw (s : State) : (s.pop8).psw = s.psw := by simp [State.pop8]
@[simp] theorem State.pop8_pc (s : State) : (s.pop8).pc = s.pc := by simp [State.pop8]
@[simp] theorem State.pop8_mem (s : State) : (s.pop8).mem = s.mem := by simp [State.pop8]
@[simp] theorem State.pop8_lastAddr (s : State) : (s.pop8).lastAddr = stackAddr (s.sp + 1) := by simp [State.pop8]
@[simp] theorem State.pop8_params (s : State) : (s.pop8).params = s.params := by simp [State.pop8]

@[simp] theorem State.pop8_peek (s : State) (j : Nat) : (s.pop8).peek j = s.peek j := by
  simp [State.peek]
@[simp] theorem State.pop8_peekWord (s : State) (j : Nat) : (s.pop8).peekWord j = s.peekWord j := by
  simp [State.peekWord]
@[simp] theorem State.pop8_flag (s : State) (g : Flag) : (s.pop8).flag g = s.flag g := by
  simp [State.flag]
@[simp] theorem State.pop8_dp (s : State) (d : Byte) : (s.pop8).dp d = s.dp d := by
  simp [State.dp]
@[simp] theorem State.pop8_reg (s : State) (q : Reg) : (s.pop8).reg q = s.reg q := by
  cases q <;> simp [State.reg]
@[simp] theorem State.pop8_ea (s : State) (q : Mode) : (s.pop8).ea q = s.ea q := by
  cases q <;> simp [State.ea]

/-! ### `popPC` -/

@[simp] theorem State.popPC_a (s : State) : (s.popPC).a = s.a := by simp [State.popPC]
@[simp] theorem State.popPC_x (s : State) : (s.popPC).x = s.x := by simp [State.popPC]
@[simp] theorem State.popPC_y (s : State) : (s.popPC).y = s.y := by simp [State.popPC]
@[simp] theorem State.popPC_sp (s : State) : (s.popPC).sp = s.sp + 1 + 1 := by simp [State.popPC]
@[simp] theorem State.popPC_psw (s : State) : (s.popPC).psw = s.psw := by simp [State.popPC]
@[simp] theorem State.popPC_pc (s : State) : (s.popPC).pc = wordOf s.pop8.pop8Value s.pop8Value := by simp [State.popPC]
@[simp] theorem State.popPC_mem (s : State) : (s.popPC).mem = s.mem := by simp [State.popPC]
@[simp] theorem State.popPC_lastAddr (s : State) : (s.popPC).lastAddr = stackAddr (s.sp + 1 + 1) := by simp [State.popPC]
@[simp] theorem State.popPC_params (s : State) : (s.popPC).params = s.params := by simp [State.popPC]

@[simp] theorem State.popPC_peek (s : State) (j : Nat) : (s.popPC).peek j = s.peek j := by
  simp [State.peek]
@[simp] theorem State.popPC_peekWord (s : State) (j : Nat) : (s.popPC).peekWord j = s.peekWord j := by
  simp [State.peekWord]
@[simp] theorem State.popPC_flag (s : State) (g : Flag) : (s.popPC).flag g = s.flag g := by
  simp [State.flag]
@[simp] theorem State.popPC_dp (s : State) (d : Byte) : (s.popPC).dp d = s.dp d := by
  simp [State.dp]
@[simp] theorem State.popPC_reg (s : State) (q : Reg) : (s.popPC).reg q = s.reg q := by
  cases q <;> simp [State.reg]
@[simp] theorem State.popPC_ea (s : State) (q : Mode) : (s.popPC).ea q = s.ea q := by
  cases q <;> simp [State.ea]

/-! ### `push8` -/

@[simp] theorem State.push8_a (s : State) (v : Byte) : (s.push8 v).a = s.a := by cases h : s.params.stackDiscipline <;> simp [State.push8, h]
@[simp] theorem State.push8_x (s : State) (v : Byte) : (s.push8 v).x = s.x := by cases h : s.params.stackDiscipline <;> simp [State.push8, h]
@[simp] theorem State.push8_y (s : State) (v : Byte) : (s.push8 v).y = s.y := by cases h : s.params.stackDiscipline <;> simp [State.push8, h]
@[simp] theorem State.push8_sp (s : State) (v : Byte) : (s.push8 v).sp = s.sp - 1 := by cases h : s.params.stackDiscipline <;> simp [State.push8, h]
@[simp] theorem State.push8_psw (s : State) (v : Byte) : (s.push8 v).psw = s.psw := by cases h : s.params.stackDiscipline <;> simp [State.push8, h]
@[simp] theorem State.push8_pc (s : State) (v : Byte) : (s.push8 v).pc = s.pc := by cases h : s.params.stackDiscipline <;> simp [State.push8, h]
@[simp] theorem State.push8_params (s : State) (v : Byte) : (s.push8 v).params = s.params := by cases h : s.params.stackDiscipline <;> simp [State.push8, h]

@[simp] theorem State.push8_flag (s : State) (v : Byte) (g : Flag) : (s.push8 v).flag g = s.flag g := by
  simp [State.flag]
@[simp] theorem State.push8_dp (s : State) (v : Byte) (d : Byte) : (s.push8 v).dp d = s.dp d := by
  simp [State.dp]
@[simp] theorem State.push8_reg (s : State) (v : Byte) (q : Reg) : (s.push8 v).reg q = s.reg q := by
  cases q <;> simp [State.reg]

/-! ### `pushPC` -/

@[simp] theorem State.pushPC_a (s : State) : (s.pushPC).a = s.a := by cases h : s.params.stackDiscipline <;> simp [State.pushPC, h]
@[simp] theorem State.pushPC_x (s : State) : (s.pushPC).x = s.x := by cases h : s.params.stackDiscipline <;> simp [State.pushPC, h]
@[simp] theorem State.pushPC_y (s : State) : (s.pushPC).y = s.y := by cases h : s.params.stackDiscipline <;> simp [State.pushPC, h]
@[simp] theorem State.pushPC_sp (s : State) : (s.pushPC).sp = s.sp - 1 - 1 := by cases h : s.params.stackDiscipline <;> simp [State.pushPC, h]
@[simp] theorem State.pushPC_psw (s : State) : (s.pushPC).psw = s.psw := by cases h : s.params.stackDiscipline <;> simp [State.pushPC, h]
@[simp] theorem State.pushPC_pc (s : State) : (s.pushPC).pc = s.pc := by cases h : s.params.stackDiscipline <;> simp [State.pushPC, h]
@[simp] theorem State.pushPC_params (s : State) : (s.pushPC).params = s.params := by cases h : s.params.stackDiscipline <;> simp [State.pushPC, h]

@[simp] theorem State.pushPC_flag (s : State) (g : Flag) : (s.pushPC).flag g = s.flag g := by
  simp [State.flag]
@[simp] theorem State.pushPC_dp (s : State) (d : Byte) : (s.pushPC).dp d = s.dp d := by
  simp [State.dp]
@[simp] theorem State.pushPC_reg (s : State) (q : Reg) : (s.pushPC).reg q = s.reg q := by
  cases q <;> simp [State.reg]

/-! ### `incX` -/

@[simp] theorem State.incX_a (s : State) : (s.incX).a = s.a := rfl
@[simp] theorem State.incX_x (s : State) : (s.incX).x = s.x + 1 := rfl
@[simp] theorem State.incX_y (s : State) : (s.incX).y = s.y := rfl
@[simp] theorem State.incX_sp (s : State) : (s.incX).sp = s.sp := rfl
@[simp] theorem State.incX_psw (s : State) : (s.incX).psw = s.psw := rfl
@[simp] theorem State.incX_pc (s : State) : (s.incX).pc = s.pc := rfl
@[simp] theorem State.incX_mem (s : State) : (s.incX).mem = s.mem := rfl
@[simp] theorem State.incX_lastAddr (s : State) : (s.incX).lastAddr = s.lastAddr := rfl
@[simp] theorem State.incX_params (s : State) : (s.incX).params = s.params := rfl

@[simp] theorem State.incX_peek (s : State) (j : Nat) : (s.incX).peek j = s.peek j := by
  simp [State.peek]
@[simp] theorem State.incX_peekWord (s : State) (j : Nat) : (s.incX).peekWord j = s.peekWord j := by
  simp [State.peekWord]
@[simp] theorem State.incX_flag (s : State) (g : Flag) : (s.incX).flag g = s.flag g := by
  simp [State.flag]
@[simp] theorem State.incX_dp (s : State) (d : Byte) : (s.incX).dp d = s.dp d := by
  simp [State.dp]

/-! ### `setReg` -/

@[simp] theorem State.setReg_a (s : State) (r : Reg) (v : Byte) : (s.setReg r v).a = if r = .a then v else s.a := by cases r <;> rfl
@[simp] theorem State.setReg_x (s : State) (r : Reg) (v : Byte) : (s.setReg r v).x = if r = .x then v else s.x := by cases r <;> rfl
@[simp] theorem State.setReg_y (s : State) (r : Reg) (v : Byte) : (s.setReg r v).y = if r = .y then v else s.y := by cases r <;> rfl
@[simp] theorem State.setReg_sp (s : State) (r : Reg) (v : Byte) : (s.setReg r v).sp = s.sp := by cases r <;> rfl
@[simp] theorem State.setReg_psw (s : State) (r : Reg) (v : Byte) : (s.setReg r v).psw = s.psw := by cases r <;> rfl
@[simp] theorem State.setReg_pc (s : State) (r : Reg) (v : Byte) : (s.setReg r v).pc = s.pc := by cases r <;> rfl
@[simp] theorem State.setReg_mem (s : State) (r : Reg) (v : Byte) : (s.setReg r v).mem = s.mem := by cases r <;> rfl
@[simp] theorem State.setReg_lastAddr (s : State) (r : Reg) (v : Byte) : (s.setReg r v).lastAddr = s.lastAddr := by cases r <;> rfl
@[simp] theorem State.setReg_params (s : State) (r : Reg) (v : Byte) : (s.setReg r v).params = s.params := by cases r <;> rfl

@[simp] theorem State.setReg_peek (s : State) (r : Reg) (v : Byte) (j : Nat) : (s.setReg r v).peek j = s.peek j := by
  simp [State.peek]
@[simp] theorem State.setReg_peekWord (s : State) (r : Reg) (v : Byte) (j : Nat) : (s.setReg r v).peekWord j = s.peekWord j := by
  simp [State.peekWord]
@[simp] theorem State.setReg_flag (s : State) (r : Reg) (v : Byte) (g : Flag) : (s.setReg r v).flag g = s.flag g := by
  simp [State.flag]
@[simp] theorem State.setReg_dp (s : State) (r : Reg) (v : Byte) (d : Byte) : (s.setReg r v).dp d = s.dp d := by
  simp [State.dp]

/-! ### `setNZ8` -/

@[simp] theorem State.setNZ8_a (s : State) (v : Byte) : (s.setNZ8 v).a = s.a := by simp [State.setNZ8]
@[simp] theorem State.setNZ8_x (s : State) (v : Byte) : (s.setNZ8 v).x = s.x := by simp [State.setNZ8]
@[simp] theorem State.setNZ8_y (s : State) (v : Byte) : (s.setNZ8 v).y = s.y := by simp [State.setNZ8]
@[simp] theorem State.setNZ8_sp (s : State) (v : Byte) : (s.setNZ8 v).sp = s.sp := by simp [State.setNZ8]
@[simp] theorem State.setNZ8_pc (s : State) (v : Byte) : (s.setNZ8 v).pc = s.pc := by simp [State.setNZ8]
@[simp] theorem State.setNZ8_mem (s : State) (v : Byte) : (s.setNZ8 v).mem = s.mem := by simp [State.setNZ8]
@[simp] theorem State.setNZ8_lastAddr (s : State) (v : Byte) : (s.setNZ8 v).lastAddr = s.lastAddr := by simp [State.setNZ8]
@[simp] theorem State.setNZ8_params (s : State) (v : Byte) : (s.setNZ8 v).params = s.params := by simp [State.setNZ8]

@[simp] theorem State.setNZ8_peek (s : State) (v : Byte) (j : Nat) : (s.setNZ8 v).peek j = s.peek j := by
  simp [State.peek]
@[simp] theorem State.setNZ8_peekWord (s : State) (v : Byte) (j : Nat) : (s.setNZ8 v).peekWord j = s.peekWord j := by
  simp [State.peekWord]
@[simp] theorem State.setNZ8_reg (s : State) (v : Byte) (q : Reg) : (s.setNZ8 v).reg q = s.reg q := by
  cases q <;> simp [State.reg]

/-! ### `setNZ16` -/

@[simp] theorem State.setNZ16_a (s : State) (w : Word) : (s.setNZ16 w).a = s.a := by simp [State.setNZ16]
@[simp] theorem State.setNZ16_x (s : State) (w : Word) : (s.setNZ16 w).x = s.x := by simp [State.setNZ16]
@[simp] theorem State.setNZ16_y (s : State) (w : Word) : (s.setNZ16 w).y = s.y := by simp [State.setNZ16]
@[simp] theorem State.setNZ16_sp (s : State) (w : Word) : (s.setNZ16 w).sp = s.sp := by simp [State.setNZ16]
@[simp] theorem State.setNZ16_pc (s : State) (w : Word) : (s.setNZ16 w).pc = s.pc := by simp [State.setNZ16]
@[simp] theorem State.setNZ16_mem (s : State) (w : Word) : (s.setNZ16 w).mem = s.mem := by simp [State.setNZ16]
@[simp] theorem State.setNZ16_lastAddr (s : State) (w : Word) : (s.setNZ16 w).lastAddr = s.lastAddr := by simp [State.setNZ16]
@[simp] theorem State.setNZ16_params (s : State) (w : Word) : (s.setNZ16 w).params = s.params := by simp [State.setNZ16]

@[simp] theorem State.setNZ16_peek (s : State) (w : Word) (j : Nat) : (s.setNZ16 w).peek j = s.peek j := by
  simp [State.peek]
@[simp] theorem State.setNZ16_peekWord (s : State) (w : Word) (j : Nat) : (s.setNZ16 w).peekWord j = s.peekWord j := by
  simp [State.peekWord]
@[simp] theorem State.setNZ16_reg (s : State) (w : Word) (q : Reg) : (s.setNZ16 w).reg q = s.reg q := by
  cases q <;> simp [State.reg]

/-! ### `adcFlags` -/

@[simp] theorem State.adcFlags_a (s : State) (v1 v2 : Byte) : (s.adcFlags v1 v2).a = s.a := by simp [State.adcFlags]
@[simp] theorem State.adcFlags_x (s : State) (v1 v2 : Byte) : (s.adcFlags v1 v2).x = s.x := by simp [State.adcFlags]
@[simp] theorem State.adcFlags_y (s : State) (v1 v2 : Byte) : (s.adcFlags v1 v2).y = s.y := by simp [State.adcFlags]
@[simp] theorem State.adcFlags_sp (s : State) (v1 v2 : Byte) : (s.adcFlags v1 v2).sp = s.sp := by simp [State.adcFlags]
@[simp] theorem State.adcFlags_pc (s : State) (v1 v2 : Byte) : (s.adcFlags v1 v2).pc = s.pc := by simp [State.adcFlags]
@[simp] theorem State.adcFlags_mem (s : State) (v1 v2 : Byte) : (s.adcFlags v1 v2).mem = s.mem := by simp [State.adcFlags]
@[simp] theorem State.adcFlags_lastAddr (s : State) (v1 v2 : Byte) : (s.adcFlags v1 v2).lastAddr = s.lastAddr := by simp [State.adcFlags]
@[simp] theorem State.adcFlags_params (s : State) (v1 v2 : Byte) : (s.adcFlags v1 v2).params = s.params := by simp [State.adcFlags]

@[simp] theorem State.adcFlags_peek (s : State) (v1 v2 : Byte) (j : Nat) : (s.adcFlags v1 v2).peek j = s.peek j := by
  simp [State.peek]
@[simp] theorem State.adcFlags_peekWord (s : State) (v1 v2 : Byte) (j : Nat) : (s.adcFlags v1 v2).peekWord j = s.peekWord j := by
  simp [State.peekWord]
@[simp] theorem State.adcFlags_reg (s : State) (v1 v2 : Byte) (q : Reg) : (s.adcFlags v1 v2).reg q = s.reg q := by
  cases q <;> simp [State.reg]

/-! ### `sbcFlags` -/

@[simp] theorem State.sbcFlags_a (s : State) (v1 v2 : Byte) : (s.sbcFlags v1 v2).a = s.a := by simp [State.sbcFlags]
@[simp] theorem State.sbcFlags_x (s : State) (v1 v2 : Byte) : (s.sbcFlags v1 v2).x = s.x := by simp [State.sbcFlags]
@[simp] theorem State.sbcFlags_y (s : State) (v1 v2 : Byte) : (s.sbcFlags v1 v2).y = s.y := by simp [State.sbcFlags]
@[simp] theorem State.sbcFlags_sp (s : State) (v1 v2 : Byte) : (s.sbcFlags v1 v2).sp = s.sp := by simp [State.sbcFlags]
@[simp] theorem State.sbcFlags_pc (s : State) (v1 v2 : Byte) : (s.sbcFlags v1 v2).pc = s.pc := by simp [State.sbcFlags]
@[simp] theorem State.sbcFlags_mem (s : State) (v1 v2 : Byte) : (s.sbcFlags v1 v2).mem = s.mem := by simp [State.sbcFlags]
@[simp] theorem State.sbcFlags_lastAddr (s : State) (v1 v2 : Byte) : (s.sbcFlags v1 v2).lastAddr = s.lastAddr := by simp [State.sbcFlags]
@[simp] theorem State.sbcFlags_params (s : State) (v1 v2 : Byte) : (s.sbcFlags v1 v2).params = s.params := by simp [State.sbcFlags]

@[simp] theorem State.sbcFlags_peek (s : State) (v1 v2 : Byte) (j : Nat) : (s.sbcFlags v1 v2).peek j = s.peek j := by
  simp [State.peek]
@[simp] theorem State.sbcFlags_peekWord (s : State) (v1 v2 : Byte) (j : Nat) : (s.sbcFlags v1 v2).peekWord j = s.peekWord j := by
  simp [State.peekWord]
@[simp] theorem State.sbcFlags_reg (s : State) (v1 v2 : Byte) (q : Reg) : (s.sbcFlags v1 v2).reg q = s.reg q := by
  cases q <;> simp [State.reg]

/-! ### `cmpFlags` -/

@[simp] theorem State.cmpFlags_a (s : State) (v1 v2 : Byte) : (s.cmpFlags v1 v2).a = s.a := by simp [State.cmpFlags]
@[simp] theorem State.cmpFlags_x (s : State) (v1 v2 : Byte) : (s.cmpFlags v1 v2).x = s.x := by simp [State.cmpFlags]
@[simp] theorem State.cmpFlags_y (s : State) (v1 v2 : Byte) : (s.cmpFlags v1 v2).y = s.y := by simp [State.cmpFlags]
@[simp] theorem State.cmpFlags_sp (s : State) (v1 v2 : Byte) : (s.cmpFlags v1 v2).sp = s.sp := by simp [State.cmpFlags]
@[simp] theorem State.cmpFlags_pc (s : State) (v1 v2 : Byte) : (s.cmpFlags v1 v2).pc = s.pc := by simp [State.cmpFlags]
@[simp] theorem State.cmpFlags_mem (s : State) (v1 v2 : Byte) : (s.cmpFlags v1 v2).mem = s.mem := by simp [State.cmpFlags]
@[simp] theorem State.cmpFlags_lastAddr (s : State) (v1 v2 : Byte) : (s.cmpFlags v1 v2).lastAddr = s.lastAddr := by simp [State.cmpFlags]
@[simp] theorem State.cmpFlags_params (s : State) (v1 v2 : Byte) : (s.cmpFlags v1 v2).params = s.params := by simp [State.cmpFlags]

@[simp] theorem State.cmpFlags_peek (s : State) (v1 v2 : Byte) (j : Nat) : (s.cmpFlags v1 v2).peek j = s.peek j := by
  simp [State.peek]
@[simp] theorem State.cmpFlags_peekWord (s : State) (v1 v2 : Byte) (j : Nat) : (s.cmpFlags v1 v2).peekWord j = s.peekWord j := by
  simp [State.peekWord]
@[simp] theorem State.cmpFlags_reg (s : State) (v1 v2 : Byte) (q : Reg) : (s.cmpFlags v1 v2).reg q = s.reg q := by
  cases q <;> simp [State.reg]

/-! ### `aluFlags` -/

@[simp] theorem State.aluFlags_a (s : State) (op : Alu) (v1 v2 : Byte) : (s.aluFlags op v1 v2).a = s.a := by cases op <;> simp [State.aluFlags]
@[simp] theorem State.aluFlags_x (s : State) (op : Alu) (v1 v2 : Byte) : (s.aluFlags op v1 v2).x = s.x := by cases op <;> simp [State.aluFlags]
@[simp] theorem State.aluFlags_y (s : State) (op : Alu) (v1 v2 : Byte) : (s.aluFlags op v1 v2).y = s.y := by cases op <;> simp [State.aluFlags]
@[simp] theorem State.aluFlags_sp (s : State) (op : Alu) (v1 v2 : Byte) : (s.aluFlags op v1 v2).sp = s.sp := by cases op <;> simp [State.aluFlags]
@[simp] theorem State.aluFlags_pc (s : State) (op : Alu) (v1 v2 : Byte) : (s.aluFlags op v1 v2).pc = s.pc := by cases op <;> simp [State.aluFlags]
@[simp] theorem State.aluFlags_mem (s : State) (op : Alu) (v1 v2 : Byte) : (s.aluFlags op v1 v2).mem = s.mem := by cases op <;> simp [State.aluFlags]
@[simp] theorem State.aluFlags_lastAddr (s : State) (op : Alu) (v1 v2 : Byte) : (s.aluFlags op v1 v2).lastAddr = s.lastAddr := by cases op <;> simp [State.aluFlags]
@[simp] theorem State.aluFlags_params (s : State) (op : Alu) (v1 v2 : Byte) : (s.aluFlags op v1 v2).params = s.params := by cases op <;> simp [State.aluFlags]

@[simp] theorem State.aluFlags_peek (s : State) (op : Alu) (v1 v2 : Byte) (j : Nat) : (s.aluFlags op v1 v2).peek j = s.peek j := by
  simp [State.peek]
@[simp] theorem State.aluFlags_peekWord (s : State) (op : Alu) (v1 v2 : Byte) (j : Nat) : (s.aluFlags op v1 v2).peekWord j = s.peekWord j := by
  simp [State.peekWord]
@[simp] theorem State.aluFlags_reg (s : State) (op : Alu) (v1 v2 : Byte) (q : Reg) : (s.aluFlags op v1 v2).reg q = s.reg q := by
  cases q <;> simp [State.reg]

/-! ### `rmwCarry` -/

@[simp] theorem State.rmwCarry_a (s : State) (op : Rmw) (v : Byte) : (s.rmwCarry op v).a = s.a := by cases op <;> simp [State.rmwCarry]
@[simp] theorem State.rmwCarry_x (s : State) (op : Rmw) (v : Byte) : (s.rmwCarry op v).x = s.x := by cases op <;> simp [State.rmwCarry]
@[simp] theorem State.rmwCarry_y (s : State) (op : Rmw) (v : Byte) : (s.rmwCarry op v).y = s.y := by cases op <;> simp [State.rmwCarry]
@[simp] theorem State.rmwCarry_sp (s : State) (op : Rmw) (v : Byte) : (s.rmwCarry op v).sp = s.sp := by cases op <;> simp [State.rmwCarry]
@[simp] theorem State.rmwCarry_pc (s : State) (op : Rmw) (v : Byte) : (s.rmwCarry op v).pc = s.pc := by cases op <;> simp [State.rmwCarry]
@[simp] theorem State.rmwCarry_mem (s : State) (op : Rmw) (v : Byte) : (s.rmwCarry op v).mem = s.mem := by cases op <;> simp [State.rmwCarry]
@[simp] theorem State.rmwCarry_lastAddr (s : State) (op : Rmw) (v : Byte) : (s.rmwCarry op v).lastAddr = s.lastAddr := by cases op <;> simp [State.rmwCarry]
@[simp] theorem State.rmwCarry_params (s : State) (op : Rmw) (v : Byte) : (s.rmwCarry op v).params = s.params := by cases op <;> simp [State.rmwCarry]

@[simp] theorem State.rmwCarry_peek (s : State) (op : Rmw) (v : Byte) (j : Nat) : (s.rmwCarry op v).peek j = s.peek j := by
  simp [State.peek]
@[simp] theorem State.rmwCarry_peekWord (s : State) (op : Rmw) (v : Byte) (j : Nat) : (s.rmwCarry op v).peekWord j = s.peekWord j := by
  simp [State.peekWord]
@[simp] theorem State.rmwCarry_reg (s : State) (op : Rmw) (v : Byte) (q : Reg) : (s.rmwCarry op v).reg q = s.reg q := by
  cases q <;> simp [State.reg]

/-! ### `rmwFlags` -/

@[simp] theorem State.rmwFlags_a (s : State) (op : Rmw) (v : Byte) : (s.rmwFlags op v).a = s.a := by simp [State.rmwFlags]
@[simp] theorem State.rmwFlags_x (s : State) (op : Rmw) (v : Byte) : (s.rmwFlags op v).x = s.x := by simp [State.rmwFlags]
@[simp] theorem State.rmwFlags_y (s : State) (op : Rmw) (v : Byte) : (s.rmwFlags op v).y = s.y := by simp [State.rmwFlags]
@[simp] theorem State.rmwFlags_sp (s : State) (op : Rmw) (v : Byte) : (s.rmwFlags op v).sp = s.sp := by simp [State.rmwFlags]
@[simp] theorem State.rmwFlags_pc (s : State) (op : Rmw) (v : Byte) : (s.rmwFlags op v).pc = s.pc := by simp [State.rmwFlags]
@[simp] theorem State.rmwFlags_mem (s : State) (op : Rmw) (v : Byte) : (s.rmwFlags op v).mem = s.mem := by simp [State.rmwFlags]
@[simp] theorem State.rmwFlags_lastAddr (s : State) (op : Rmw) (v : Byte) : (s.rmwFlags op v).lastAddr = s.lastAddr := by simp [State.rmwFlags]
@[simp] theorem State.rmwFlags_params (s : State) (op : Rmw) (v : Byte) : (s.rmwFlags op v).params = s.params := by simp [State.rmwFlags]

@[simp] theorem State.rmwFlags_peek (s : State) (op : Rmw) (v : Byte) (j : Nat) : (s.rmwFlags op v).peek j = s.peek j := by
  simp [State.peek]
@[simp] theorem State.rmwFlags_peekWord (s : State) (op : Rmw) (v : Byte) (j : Nat) : (s.rmwFlags op v).peekWord j = s.peekWord j := by
  simp [State.peekWord]
@[simp] theorem State.rmwFlags_reg (s : State) (op : Rmw) (v : Byte) (q : Reg) : (s.rmwFlags op v).reg q = s.reg q := by
  cases q <;> simp [State.reg]

/-! ### `addwFlags` -/

@[simp] theorem State.addwFlags_a (s : State) (a b : Word) : (s.addwFlags a b).a = s.a := by simp [State.addwFlags]
@[simp] theorem State.addwFlags_x (s : State) (a b : Word) : (s.addwFlags a b).x = s.x := by simp [State.addwFlags]
@[simp] theorem State.addwFlags_y (s : State) (a b : Word) : (s.addwFlags a b).y = s.y := by simp [State.addwFlags]
@[simp] theorem State.addwFlags_sp (s : State) (a b : Word) : (s.addwFlags a b).sp = s.sp := by simp [State.addwFlags]
@[simp] theorem State.addwFlags_pc (s : State) (a b : Word) : (s.addwFlags a b).pc = s.pc := by simp [State.addwFlags]
@[simp] theorem State.addwFlags_mem (s : State) (a b : Word) : (s.addwFlags a b).mem = s.mem := by simp [State.addwFlags]
@[simp] theorem State.addwFlags_lastAddr (s : State) (a b : Word) : (s.addwFlags a b).lastAddr = s.lastAddr := by simp [State.addwFlags]
@[simp] theorem State.addwFlags_params (s : State) (a b : Word) : (s.addwFlags a b).params = s.params := by simp [State.addwFlags]

@[simp] theorem State.addwFlags_peek (s : State) (a b : Word) (j : Nat) : (s.addwFlags a b).peek j = s.peek j := by
  simp [State.peek]
@[simp] theorem State.addwFlags_peekWord (s : State) (a b : Word) (j : Nat) : (s.addwFlags a b).peekWord j = s.peekWord j := by
  simp [State.peekWord]
@[simp] theorem State.addwFlags_reg (s : State) (a b : Word) (q : Reg) : (s.addwFlags a b).reg q = s.reg q := by
  cases q <;> simp [State.reg]

/-! ### `subwFlags` -/

@[simp] theorem State.subwFlags_a (s : State) (a b : Word) : (s.subwFlags a b).a = s.a := by simp [State.subwFlags]
@[simp] theorem State.subwFlags_x (s : State) (a b : Word) : (s.subwFlags a b).x = s.x := by simp [State.subwFlags]
@[simp] theorem State.subwFlags_y (s : State) (a b : Word) : (s.subwFlags a b).y = s.y := by simp [State.subwFlags]
@[simp] theorem State.subwFlags_sp (s : State) (a b : Word) : (s.subwFlags a b).sp = s.sp := by simp [State.subwFlags]
@[simp] theorem State.subwFlags_pc (s : State) (a b : Word) : (s.subwFlags a b).pc = s.pc := by simp [State.subwFlags]
@[simp] theorem State.subwFlags_mem (s : State) (a b : Word) : (s.subwFlags a b).mem = s.mem := by simp [State.subwFlags]
@[simp] theorem State.subwFlags_lastAddr (s : State) (a b : Word) : (s.subwFlags a b).lastAddr = s.lastAddr := by simp [State.subwFlags]
@[simp] theorem State.subwFlags_params (s : State) (a b : Word) : (s.subwFlags a b).params = s.params := by simp [State.subwFlags]

@[simp] theorem State.subwFlags_peek (s : State) (a b : Word) (j : Nat) : (s.subwFlags a b).peek j = s.peek j := by
  simp [State.peek]
@[simp] theorem State.subwFlags_peekWord (s : State) (a b : Word) (j : Nat) : (s.subwFlags a b).peekWord j = s.peekWord j := by
  simp [State.peekWord]
@[simp] theorem State.subwFlags_reg (s : State) (a b : Word) (q : Reg) : (s.subwFlags a b).reg q = s.reg q := by
  cases q <;> simp [State.reg]

/-! ### `cmpwFlags` -/

@[simp] theorem State.cmpwFlags_a (s : State) (a b : Word) : (s.cmpwFlags a b).a = s.a := by simp [State.cmpwFlags]
@[simp] theorem State.cmpwFlags_x (s : State) (a b : Word) : (s.cmpwFlags a b).x = s.x := by simp [State.cmpwFlags]
@[simp] theorem State.cmpwFlags_y (s : State) (a b : Word) : (s.cmpwFlags a b).y = s.y := by simp [State.cmpwFlags]
@[simp] theorem State.cmpwFlags_sp (s : State) (a b : Word) : (s.cmpwFlags a b).sp = s.sp := by simp [State.cmpwFlags]
@[simp] theorem State.cmpwFlags_pc (s : State) (a b : Word) : (s.cmpwFlags a b).pc = s.pc := by simp [State.cmpwFlags]
@[simp] theorem State.cmpwFlags_mem (s : State) (a b : Word) : (s.cmpwFlags a b).mem = s.mem := by simp [State.cmpwFlags]
@[simp] theorem State.cmpwFlags_lastAddr (s : State) (a b : Word) : (s.cmpwFlags a b).lastAddr = s.lastAddr := by simp [State.cmpwFlags]
@[simp] theorem State.cmpwFlags_params (s : State) (a b : Word) : (s.cmpwFlags a b).params = s.params := by simp [State.cmpwFlags]

@[simp] theorem State.cmpwFlags_peek (s : State) (a b : Word) (j : Nat) : (s.cmpwFlags a b).peek j = s.peek j := by
  simp [State.peek]
@[simp] theorem State.cmpwFlags_peekWord (s : State) (a b : Word) (j : Nat) : (s.cmpwFlags a b).peekWord j = s.peekWord j := by
  simp [State.peekWord]
@[simp] theorem State.cmpwFlags_reg (s : State) (a b : Word) (q : Reg) : (s.cmpwFlags a b).reg q = s.reg q := by
  cases q <;> simp [State.reg]

/-! ### `enter` -/

@[simp] theorem State.enter_a (s : State) (m : Mode) : (s.enter m).a = s.a := by cases m <;> simp [State.enter]
@[simp] theorem State.enter_x (s : State) (m : Mode) : (s.enter m).x = s.x := by cases m <;> simp [State.enter]
@[simp] theorem State.enter_y (s : State) (m : Mode) : (s.enter m).y = s.y := by cases m <;> simp [State.enter]
@[simp] theorem State.enter_sp (s : State) (m : Mode) : (s.enter m).sp = s.sp := by cases m <;> simp [State.enter]
@[simp] theorem State.enter_psw (s : State) (m : Mode) : (s.enter m).psw = s.psw := by cases m <;> simp [State.enter]
@[simp] theorem State.enter_mem (s : State) (m : Mode) : (s.enter m).mem = s.mem := by cases m <;> simp [State.enter]
@[simp] theorem State.enter_params (s : State) (m : Mode) : (s.enter m).params = s.params := by cases m <;> simp [State.enter]

@[simp] theorem State.enter_peek (s : State) (m : Mode) (j : Nat) : (s.enter m).peek j = s.peek j := by
  simp [State.peek]
@[simp] theorem State.enter_peekWord (s : State) (m : Mode) (j : Nat) : (s.enter m).peekWord j = s.peekWord j := by
  simp [State.peekWord]
@[simp] theorem State.enter_flag (s : State) (m : Mode) (g : Flag) : (s.enter m).flag g = s.flag g := by
  simp [State.flag]
@[simp] theorem State.enter_dp (s : State) (m : Mode) (d : Byte) : (s.enter m).dp d = s.dp d := by
  simp [State.dp]
@[simp] theorem State.enter_reg (s : State) (m : Mode) (q : Reg) : (s.enter m).reg q = s.reg q := by
  cases q <;> simp [State.reg]
@[simp] theorem State.enter_ea (s : State) (m : Mode) (q : Mode) : (s.enter m).ea q = s.ea q := by
  cases q <;> simp [State.ea]

/-! ### `modeRead` -/

@[simp] theorem State.modeRead_a (s : State) (m : Mode) : (s.modeRead m).a = s.a := by simp [State.modeRead]
@[simp] theorem State.modeRead_x (s : State) (m : Mode) : (s.modeRead m).x = s.x := by simp [State.modeRead]
@[simp] theorem State.modeRead_y (s : State) (m : Mode) : (s.modeRead m).y = s.y := by simp [State.modeRead]
@[simp] theorem State.modeRead_sp (s : State) (m : Mode) : (s.modeRead m).sp = s.sp := by simp [State.modeRead]
@[simp] theorem State.modeRead_psw (s : State) (m : Mode) : (s.modeRead m).psw = s.psw := by simp [State.modeRead]
@[simp] theorem State.modeRead_pc (s : State) (m : Mode) : (s.modeRead m).pc = (s.enter m).pc := by simp [State.modeRead]
@[simp] theorem State.modeRead_mem (s : State) (m : Mode) : (s.modeRead m).mem = s.mem := by simp [State.modeRead]
@[simp] theorem State.modeRead_lastAddr (s : State) (m : Mode) : (s.modeRead m).lastAddr = (s.ea m).toNat := by simp [State.modeRead]
@[simp] theorem State.modeRead_params (s : State) (m : Mode) : (s.modeRead m).params = s.params := by simp [State.modeRead]

@[simp] theorem State.modeRead_peek (s : State) (m : Mode) (j : Nat) : (s.modeRead m).peek j = s.peek j := by
  simp [State.peek]
@[simp] theorem State.modeRead_peekWord (s : State) (m : Mode) (j : Nat) : (s.modeRead m).peekWord j = s.peekWord j := by
  simp [State.peekWord]
@[simp] theorem State.modeRead_flag (s : State) (m : Mode) (g : Flag) : (s.modeRead m).flag g = s.flag g := by
  simp [State.flag]
@[simp] theorem State.modeRead_dp (s : State) (m : Mode) (d : Byte) : (s.modeRead m).dp d = s.dp d := by
  simp [State.dp]
@[simp] theorem State.modeRead_reg (s : State) (m : Mode) (q : Reg) : (s.modeRead m).reg q = s.reg q := by
  cases q <;> simp [State.reg]
@[simp] theorem State.modeRead_ea (s : State) (m : Mode) (q : Mode) : (s.modeRead m).ea q = s.ea q := by
  cases q <;> simp [State.ea]

/-! ### `sourceRead` -/

@[simp] theorem State.sourceRead_a (s : State) (src : Source) : (s.sourceRead src).a = s.a := by cases src <;> simp [State.sourceRead]
@[simp] theorem State.sourceRead_x (s : State) (src : Source) : (s.sourceRead src).x = s.x := by cases src <;> simp [State.sourceRead]
@[simp] theorem State.sourceRead_y (s : State) (src : Source) : (s.sourceRead src).y = s.y := by cases src <;> simp [State.sourceRead]
@[simp] theorem State.sourceRead_sp (s : State) (src : Source) : (s.sourceRead src).sp = s.sp := by cases src <;> simp [State.sourceRead]
@[simp] theorem State.sourceRead_psw (s : State) (src : Source) : (s.sourceRead src).psw = s.psw := by cases src <;> simp [State.sourceRead]
@[simp] theorem State.sourceRead_mem (s : State) (src : Source) : (s.sourceRead src).mem = s.mem := by cases src <;> simp [State.sourceRead]
@[simp] theorem State.sourceRead_params (s : State) (src : Source) : (s.sourceRead src).params = s.params := by cases src <;> simp [State.sourceRead]

@[simp] theorem State.sourceRead_peek (s : State) (src : Source) (j : Nat) : (s.sourceRead src).peek j = s.peek j := by
  simp [State.peek]
@[simp] theorem State.sourceRead_peekWord (s : State) (src : Source) (j : Nat) : (s.sourceRead src).peekWord j = s.peekWord j := by
  simp [State.peekWord]
@[simp] theorem State.sourceRead_flag (s : State) (src : Source) (g : Flag) : (s.sourceRead src).flag g = s.flag g := by
  simp [State.flag]
@[simp] theorem State.sourceRead_dp (s : State) (src : Source) (d : Byte) : (s.sourceRead src).dp d = s.dp d := by
  simp [State.dp]
@[simp] theorem State.sourceRead_reg (s : State) (src : Source) (q : Reg) : (s.sourceRead src).reg q = s.reg q := by
  cases q <;> simp [State.reg]
@[simp] theorem State.sourceRead_ea (s : State) (src : Source) (q : Mode) : (s.sourceRead src).ea q = s.ea q := by
  cases q <;> simp [State.ea]

/-! ### `branchIf` -/

@[simp] theorem State.branchIf_a (s : State) (taken : Bool) (rr : Byte) : (s.branchIf taken rr).a = s.a := by cases taken <;> simp [State.branchIf]
@[simp] theorem State.branchIf_x (s : State) (taken : Bool) (rr : Byte) : (s.branchIf taken rr).x = s.x := by cases taken <;> simp [State.branchIf]
@[simp] theorem State.branchIf_y (s : State) (taken : Bool) (rr : Byte) : (s.branchIf taken rr).y = s.y := by cases taken <;> simp [State.branchIf]
@[simp] theorem State.branchIf_sp (s : State) (taken : Bool) (rr : Byte) : (s.branchIf taken rr).sp = s.sp := by cases taken <;> simp [State.branchIf]
@[simp] theorem State.branchIf_psw (s : State) (taken : Bool) (rr : Byte) : (s.branchIf taken rr).psw = s.psw := by cases taken <;> simp [State.branchIf]
@[simp] theorem State.branchIf_pc (s : State) (taken : Bool) (rr : Byte) :
    (s.branchIf taken rr).pc = if taken then s.pc + 1 + sext rr else s.pc + 1 := by cases taken <;> simp [State.branchIf]
@[simp] theorem State.branchIf_mem (s : State) (taken : Bool) (rr : Byte) : (s.branchIf taken rr).mem = s.mem := by cases taken <;> simp [State.branchIf]
@[simp] theorem State.branchIf_lastAddr (s : State) (taken : Bool) (rr : Byte) : (s.branchIf taken rr).lastAddr = s.pc.toNat := by cases taken <;> simp [State.branchIf]
@[simp] theorem State.branchIf_params (s : State) (taken : Bool) (rr : Byte) : (s.branchIf taken rr).params = s.params := by cases taken <;> simp [State.branchIf]

@[simp] theorem State.branchIf_peek (s : State) (taken : Bool) (rr : Byte) (j : Nat) : (s.branchIf taken rr).peek j = s.peek j := by
  simp [State.peek]
@[simp] theorem State.branchIf_peekWord (s : State) (taken : Bool) (rr : Byte) (j : Nat) : (s.branchIf taken rr).peekWord j = s.peekWord j := by
  simp [State.peekWord]
@[simp] theorem State.branchIf_flag (s : State) (taken : Bool) (rr : Byte) (g : Flag) : (s.branchIf taken rr).flag g = s.flag g := by
  simp [State.flag]
@[simp] theorem State.branchIf_dp (s : State) (taken : Bool) (rr : Byte) (d : Byte) : (s.branchIf taken rr).dp d = s.dp d := by
  simp [State.dp]
@[simp] theorem State.branchIf_reg (s : State) (taken : Bool) (rr : Byte) (q : Reg) : (s.branchIf taken rr).reg q = s.reg q := by
  cases q <;> simp [State.reg]
@[simp] theorem State.branchIf_ea (s : State) (taken : Bool) (rr : Byte) (q : Mode) : (s.branchIf taken rr).ea q = s.ea q := by
  cases q <;> simp [State.ea]

/-! ### `place` -/

@[simp] theorem State.place_a (s : State) (k : Nat) (v : Byte) : (s.place k v).a = s.a := rfl
@[simp] theorem State.place_x (s : State) (k : Nat) (v : Byte) : (s.place k v).x = s.x := rfl
@[simp] theorem State.place_y (s : State) (k : Nat) (v : Byte) : (s.place k v).y = s.y := rfl
@[simp] theorem State.place_sp (s : State) (k : Nat) (v : Byte) : (s.place k v).sp = s.sp := rfl
@[simp] theorem State.place_psw (s : State) (k : Nat) (v : Byte) : (s.place k v).psw = s.psw := rfl
@[simp] theorem State.place_pc (s : State) (k : Nat) (v : Byte) : (s.place k v).pc = s.pc := rfl
@[simp] theorem State.place_mem (s : State) (k : Nat) (v : Byte) : (s.place k v).mem = s.mem.store k v := rfl
@[simp] theorem State.place_lastAddr (s : State) (k : Nat) (v : Byte) : (s.place k v).lastAddr = s.lastAddr := rfl
@[simp] theorem State.place_params (s : State) (k : Nat) (v : Byte) : (s.place k v).params = s.params := rfl

@[simp] theorem State.place_flag (s : State) (k : Nat) (v : Byte) (g : Flag) : (s.place k v).flag g = s.flag g := by
  simp [State.flag]
@[simp] theorem State.place_dp (s : State) (k : Nat) (v : Byte) (d : Byte) : (s.place k v).dp d = s.dp d := by
  simp [State.dp]
@[simp] theorem State.place_reg (s : State) (k : Nat) (v : Byte) (q : Reg) : (s.place k v).reg q = s.reg q := by
  cases q <;> simp [State.reg]

end Sys2Proof.Machine
end

