-- ==== Sys2Proof/Laws/Flags.lean ====
section
/-! SUPPORT. PSW as its eight flags: reading a flag after a flag write, and every flag write on a status byte written
flag by flag. -/

namespace Sys2Proof.Machine

/-- A bit of a byte after a bit write. -/
theorem withBit_bit (p : Byte) (v : Bool) {k j : Nat} (hj : j < 8) :
    (withBit p k v).getLsbD j = if j = k then v else p.getLsbD j := by
  have h1 : (1#8 <<< k).getLsbD j = decide (j = k) := by
    rw [BitVec.getLsbD_shiftLeft, BitVec.getLsbD_one]
    by_cases h : j = k
    · simp [h]; omega
    · have : ¬ (¬ j < k ∧ j - k = 0) := by omega
      simp [h, hj]; omega
  unfold withBit
  split <;> rename_i h
  · rw [BitVec.getLsbD_or]
    erw [h1]
    by_cases e : j = k <;> simp [e, h]
  · rw [BitVec.getLsbD_and, BitVec.getLsbD_not]
    erw [h1]
    by_cases e : j = k <;> simp [e, h, hj]

/-- A flag after a flag write. -/
theorem State.flag_setFlag (s : State) (f g : Flag) (v : Bool) :
    (s.setFlag f v).flag g = if g = f then v else s.flag g := by
  have hb : (g.bit = f.bit) = (g = f) := by cases f <;> cases g <;> simp [Flag.bit]
  have hg : g.bit < 8 := by cases g <;> decide
  rw [State.flag, State.setFlag_psw, withBit_bit _ _ hg]
  simp only [hb]
  rfl

/-- A status byte is its eight flags. -/
theorem pswOf_eq (p : Byte) :
    pswOf (p.getLsbD 7) (p.getLsbD 6) (p.getLsbD 5) (p.getLsbD 4) (p.getLsbD 3) (p.getLsbD 2) (p.getLsbD 1)
      (p.getLsbD 0) = p := by
  revert p; decide +kernel

/-- PSW is its eight flags. -/
theorem State.psw_eq (s : State) :
    s.psw = pswOf (s.flag .n) (s.flag .v) (s.flag .p) (s.flag .b) (s.flag .h) (s.flag .i) (s.flag .z) (s.flag .c) :=
  (pswOf_eq s.psw).symm

/-- Each flag of a status byte written flag by flag. -/
theorem pswOf_bits (n v p b h i z c : Bool) :
    (pswOf n v p b h i z c).getLsbD 7 = n ∧ (pswOf n v p b h i z c).getLsbD 6 = v ∧
    (pswOf n v p b h i z c).getLsbD 5 = p ∧ (pswOf n v p b h i z c).getLsbD 4 = b ∧
    (pswOf n v p b h i z c).getLsbD 3 = h ∧ (pswOf n v p b h i z c).getLsbD 2 = i ∧
    (pswOf n v p b h i z c).getLsbD 1 = z ∧ (pswOf n v p b h i z c).getLsbD 0 = c := by
  revert n v p b h i z c; decide +kernel

/-- Two status bytes with the same eight flags are equal. -/
theorem psw_ext {p q : Byte} (h : ∀ f : Flag, p.getLsbD f.bit = q.getLsbD f.bit) : p = q := by
  rw [← pswOf_eq p, ← pswOf_eq q]
  have hn := h .n; have hv := h .v; have hp := h .p; have hb := h .b
  have hh := h .h; have hi := h .i; have hz := h .z; have hc := h .c
  simp only [Flag.bit] at *
  rw [hn, hv, hp, hb, hh, hi, hz, hc]

/-- A state whose flags are those of another, flag by flag, has the PSW that lists them. -/
theorem State.psw_of_flags {s : State} {n v p b h i z c : Bool} (hn : s.flag .n = n) (hv : s.flag .v = v)
    (hp : s.flag .p = p) (hb : s.flag .b = b) (hh : s.flag .h = h) (hi : s.flag .i = i) (hz : s.flag .z = z)
    (hc : s.flag .c = c) : s.psw = pswOf n v p b h i z c := by
  rw [s.psw_eq, hn, hv, hp, hb, hh, hi, hz, hc]

/-- The converse: the flags of a state whose PSW is written flag by flag. -/
theorem State.flags_of_psw {s : State} {n v p b h i z c : Bool} (e : s.psw = pswOf n v p b h i z c) :
    s.flag .n = n ∧ s.flag .v = v ∧ s.flag .p = p ∧ s.flag .b = b ∧ s.flag .h = h ∧ s.flag .i = i ∧ s.flag .z = z ∧
      s.flag .c = c := by
  simp only [State.flag, e, Flag.bit]
  exact pswOf_bits n v p b h i z c

/-- SetNZ8 reads back as its two flags. -/
theorem State.flag_setNZ8 (s : State) (v : Byte) (g : Flag) :
    (s.setNZ8 v).flag g = if g = .n then v.getLsbD 7 else if g = .z then v == 0 else s.flag g := by
  simp only [State.setNZ8, State.flag_setFlag]

/-- SetNZ16 reads back as its two flags. -/
theorem State.flag_setNZ16 (s : State) (w : Word) (g : Flag) :
    (s.setNZ16 w).flag g = if g = .n then w.getLsbD 15 else if g = .z then w == 0 else s.flag g := by
  simp only [State.setNZ16, State.flag_setFlag]

/-- The sign bit of a byte, as a comparison. -/
theorem byte_sign (v : Byte) : v.getLsbD 7 = decide (0x80 ≤ v.toNat) := by
  revert v; decide +kernel

/-- The sign bit of a word, as a comparison. -/
theorem word_sign (w : Word) : w.getLsbD 15 = decide (0x8000 ≤ w.toNat) := by
  have h : w.msb = w.getLsbD 15 := by simp [BitVec.msb, BitVec.getMsbD]
  rw [← h, BitVec.msb_eq_decide]

/-- A byte is 0, as a number. -/
theorem byte_zero (v : Byte) : (v == 0) = (v.toNat == 0) := by
  revert v; decide +kernel

/-- A word is 0, as a number. -/
theorem word_zero (w : Word) : (w == 0) = (w.toNat == 0) := by
  rw [Bool.eq_iff_iff]; simp [BitVec.toNat_eq]

end Sys2Proof.Machine
end

