-- ==== Sys2Proof/Laws/Memory.lean ====
section
/-! SUPPORT. Reading after writing, and the canonical form of memory: every operation that writes memory keeps it. -/

namespace Sys2Proof.Machine

/-! ## Reading after writing -/

theorem Memory.byteAt_clear (m : Memory) (k j : Nat) :
    (m.clear k).byteAt j = if j = k then Memory.unlisted else m.byteAt j := by
  induction m with
  | nil => simp [Memory.clear, Memory.byteAt]
  | cons c cs ih =>
    by_cases h : c.1 = k
    · simp only [Memory.clear, h, if_true, ih, Memory.byteAt]
      by_cases hj : j = k
      · simp [hj]
      · simp [hj, Ne.symm hj]
    · simp only [Memory.clear, h, if_false, Memory.byteAt, ih]
      by_cases hj : j = k
      · simp [hj, h]
      · simp [hj]

theorem Memory.byteAt_put (m : Memory) (k j : Nat) (v : Byte) (hk : j = k → m.byteAt k = Memory.unlisted)
    (hv : ∀ c ∈ m, c.1 ≠ k) : (m.put k v).byteAt j = if j = k then v else m.byteAt j := by
  induction m with
  | nil =>
    by_cases h : j = k
    · simp [Memory.put, Memory.byteAt, h]
    · simp [Memory.put, Memory.byteAt, h, Ne.symm h]
  | cons c cs ih =>
    have hc : c.1 ≠ k := hv c (by simp)
    have hcs : ∀ d ∈ cs, d.1 ≠ k := fun d hd => hv d (by simp [hd])
    simp only [Memory.put]
    split
    · by_cases h : j = k
      · simp [Memory.byteAt, h]
      · simp [Memory.byteAt, h, Ne.symm h]
    · simp only [Memory.byteAt]
      by_cases h : c.1 = j
      · have : j ≠ k := fun e => hc (h.trans e)
        simp [h, this]
      · rw [if_neg h, if_neg h]
        refine ih (fun e => ?_) hcs
        have := hk e
        simpa [Memory.byteAt, hc] using this

theorem Memory.clear_ne (m : Memory) (k : Nat) : ∀ c ∈ m.clear k, c.1 ≠ k := by
  induction m with
  | nil => simp [Memory.clear]
  | cons c cs ih =>
    by_cases h : c.1 = k
    · simpa [Memory.clear, h] using ih
    · simp only [Memory.clear, h, if_false, List.mem_cons, forall_eq_or_imp]
      exact ⟨h, ih⟩

/-- A store changes one address only. -/
theorem Memory.byteAt_store (m : Memory) (k j : Nat) (v : Byte) :
    (m.store k v).byteAt j = if j = k then v else m.byteAt j := by
  unfold Memory.store
  split
  · rename_i h
    rw [Memory.byteAt_clear, h]
  · rw [Memory.byteAt_put _ _ _ _ (fun _ => by simp [Memory.byteAt_clear]) (Memory.clear_ne m k),
      Memory.byteAt_clear]
    split <;> rfl

/-- Above 0xFFFF every address reads 0 (R35). -/
theorem State.peek_high (s : State) {k : Nat} (h : 0xFFFF < k) : s.peek k = 0 := by
  simp [State.peek, Nat.not_le.mpr h]

/-- What reads after MemWrite (R35, R36). -/
theorem State.peek_memWrite (s : State) (k j : Nat) (v : Byte) :
    (s.memWrite k v).peek j = if j = k ∧ k ≤ 0xFFFF then v else s.peek j := by
  by_cases hk : k ≤ 0xFFFF
  · by_cases hj : j = k
    · subst hj; simp [State.peek, hk, Memory.byteAt_store]
    · simp [State.peek, hk, hj, Memory.byteAt_store]
  · simp [State.peek, hk]

/-- What reads after a MemWrite at a 16-bit address. -/
theorem State.peek_memWrite_word (s : State) (w : Word) (j : Nat) (v : Byte) :
    (s.memWrite w.toNat v).peek j = if j = w.toNat then v else s.peek j := by
  have : w.toNat ≤ 0xFFFF := by have := w.isLt; omega
  simp [State.peek_memWrite, this]

/-- A stack address is in page 1 (R14). -/
theorem stackAddr_le (b : Byte) : stackAddr b ≤ 0xFFFF := by
  have := b.isLt; unfold stackAddr; omega

/-- What reads after a MemWrite to the stack page. -/
theorem State.peek_memWrite_stack (s : State) (b : Byte) (j : Nat) (v : Byte) :
    (s.memWrite (stackAddr b) v).peek j = if j = stackAddr b then v else s.peek j := by
  simp [State.peek_memWrite, stackAddr_le]

/-! ## The canonical form -/

theorem Memory.above_mono {a b : Nat} (h : a ≤ b) {m : Memory} (hb : Memory.above b m = true) :
    Memory.above a m = true := by
  simp only [Memory.above, List.all_eq_true, decide_eq_true_eq] at *
  exact fun c hc => by have := hb c hc; omega

theorem Memory.above_clear {a : Nat} (k : Nat) {m : Memory} (h : Memory.above a m = true) :
    Memory.above a (m.clear k) = true := by
  induction m with
  | nil => simp [Memory.clear, Memory.above]
  | cons c cs ih =>
    simp only [Memory.above, List.all_cons, Bool.and_eq_true] at h
    have := ih h.2
    by_cases hc : c.1 = k
    · simpa [Memory.clear, hc] using this
    · simp only [Memory.clear, hc, if_false, Memory.above, List.all_cons, Bool.and_eq_true]
      exact ⟨h.1, this⟩

theorem Memory.above_put {a k : Nat} (v : Byte) {m : Memory} (hk : a < k) (h : Memory.above a m = true) :
    Memory.above a (m.put k v) = true := by
  induction m with
  | nil => simp [Memory.put, Memory.above, hk]
  | cons c cs ih =>
    simp only [Memory.above, List.all_cons, Bool.and_eq_true] at h
    simp only [Memory.put]
    split
    · simp only [Memory.above, List.all_cons, Bool.and_eq_true]
      exact ⟨by simpa using hk, h⟩
    · simp only [Memory.above, List.all_cons, Bool.and_eq_true]
      exact ⟨h.1, ih h.2⟩

theorem Memory.wf_cons (c : Host.Cell) (cs : Memory) :
    Memory.wf (c :: cs) = true ↔
      c.1 ≤ 0xFFFF ∧ c.2 ≠ Memory.unlisted ∧ Memory.above c.1 cs = true ∧ Memory.wf cs = true := by
  simp [Memory.wf, and_assoc]

theorem Memory.wf_clear (k : Nat) {m : Memory} (h : m.wf = true) : (m.clear k).wf = true := by
  induction m with
  | nil => simpa [Memory.clear] using h
  | cons c cs ih =>
    obtain ⟨h1, h2, h3, h4⟩ := (Memory.wf_cons c cs).mp h
    by_cases hc : c.1 = k
    · simpa [Memory.clear, hc] using ih h4
    · simp only [Memory.clear, hc, if_false]
      exact (Memory.wf_cons _ _).mpr ⟨h1, h2, Memory.above_clear k h3, ih h4⟩

theorem Memory.wf_put {k : Nat} {v : Byte} (hk : k ≤ 0xFFFF) (hv : v ≠ Memory.unlisted) {m : Memory}
    (hne : ∀ c ∈ m, c.1 ≠ k) (h : m.wf = true) : (m.put k v).wf = true := by
  induction m with
  | nil => simpa [Memory.put, Memory.wf, Memory.above] using ⟨hk, hv⟩
  | cons c cs ih =>
    obtain ⟨h1, h2, h3, h4⟩ := (Memory.wf_cons c cs).mp h
    have hc : c.1 ≠ k := hne c (by simp)
    simp only [Memory.put]
    split
    · rename_i hlt
      refine (Memory.wf_cons _ _).mpr ⟨hk, hv, ?_, h⟩
      simp only [Memory.above, List.all_cons, Bool.and_eq_true]
      exact ⟨by simpa using hlt, Memory.above_mono (Nat.le_of_lt hlt) h3⟩
    · rename_i hlt
      exact (Memory.wf_cons _ _).mpr
        ⟨h1, h2, Memory.above_put v (by omega) h3, ih (fun d hd => hne d (by simp [hd])) h4⟩

/-- A store at an address of the 64 KiB keeps the canonical form. -/
theorem Memory.wf_store {k : Nat} (v : Byte) (hk : k ≤ 0xFFFF) {m : Memory} (h : m.wf = true) :
    (m.store k v).wf = true := by
  unfold Memory.store
  split
  · exact Memory.wf_clear k h
  · rename_i hv
    exact Memory.wf_put hk hv (Memory.clear_ne m k) (Memory.wf_clear k h)

/-- MemWrite keeps the canonical form. -/
theorem State.memWrite_wf {s : State} (k : Nat) (v : Byte) (h : s.mem.wf = true) :
    (s.memWrite k v).mem.wf = true := by
  by_cases hk : k ≤ 0xFFFF
  · simpa [hk] using Memory.wf_store v hk h
  · simpa [hk] using h

/-- WriteWord keeps the canonical form. -/
theorem State.writeWord_wf {s : State} (k : Nat) (w : Word) (h : s.mem.wf = true) :
    (s.writeWord k w).mem.wf = true := State.memWrite_wf _ _ (State.memWrite_wf _ _ h)

/-- A push keeps the canonical form. -/
theorem State.push8_wf {s : State} (v : Byte) (h : s.mem.wf = true) : (s.push8 v).mem.wf = true := by
  unfold State.push8
  split
  · exact State.memWrite_wf _ _ h
  · exact State.memWrite_wf _ _ h

/-- The push of a return address keeps the canonical form. -/
theorem State.pushPC_wf {s : State} (h : s.mem.wf = true) : s.pushPC.mem.wf = true := by
  unfold State.pushPC
  split <;> exact State.push8_wf _ (State.push8_wf _ h)

/-- Placing an instruction for the next step keeps the canonical form. -/
theorem State.placeInstr_wf {s : State} (nbits w : Nat) (h : s.mem.wf = true) :
    (s.placeInstr nbits w).mem.wf = true := by
  have b : ∀ x : Word, x.toNat ≤ 0xFFFF := fun x => by have := x.isLt; omega
  exact Memory.wf_store _ (b _) (Memory.wf_store _ (b _) (Memory.wf_store _ (b _) h))

/-- The loader's writes keep the canonical form. -/
theorem State.writeBytes_wf {s : State} (k : Nat) (bytes : List Byte) (h : s.mem.wf = true) :
    (s.writeBytes k bytes).mem.wf = true := by
  induction bytes generalizing s k with
  | nil => exact h
  | cons b bs ih => exact ih _ (State.memWrite_wf k b h)

/-! ## The parameters -/

/-- Every total function from YA to a pair (A, Y) is a DIV_ZERO of the model (R6, log entry 4). -/
theorem divZero_represents (f : Word → Byte × Byte) : ∃ d : DivZero, ∀ ya, divZeroResult d ya = f ya := by
  refine ⟨⟨f 0, (List.finRange 65536).map (fun i => (BitVec.ofFin (w := 16) i, f (BitVec.ofFin i)))⟩, fun ya => ?_⟩
  have key : ∀ l : List (Fin 65536), ya.toFin ∈ l →
      (l.map (fun i => (BitVec.ofFin (w := 16) i, f (BitVec.ofFin i)))).lookup ya = some (f ya) := by
    intro l
    induction l with
    | nil => simp
    | cons i is ih =>
      intro hm
      by_cases h : ya = BitVec.ofFin i
      · simp [h]
      · have hb : (ya == BitVec.ofFin i) = false := by simpa using h
        have : ya.toFin ∈ is := by
          rcases List.mem_cons.mp hm with e | e
          · exact absurd (by rw [← e]) h
          · exact e
        simp [List.lookup, hb, ih this]
  simp [divZeroResult, key _ (List.mem_finRange _)]

end Sys2Proof.Machine
end

