-- ==== Sys2Proof/Laws/Operands.lean ====
section
/-! SUPPORT. What forming an operand does to PC and `last_addr`, and what each shared operation can do, as its fields. -/

namespace Sys2Proof.Machine

/-! ## PC after the operand bytes -/

@[simp] theorem State.pcAfter_zero (s : State) : s.pcAfter 0 = s.pc := by
  apply BitVec.eq_of_toNat_eq; simp [State.pcAfter]

@[simp] theorem State.pcAfter_one (s : State) : s.pcAfter 1 = s.pc + 1 := by
  apply BitVec.eq_of_toNat_eq; simp [State.pcAfter]

@[simp] theorem State.pcAfter_two (s : State) : s.pcAfter 2 = s.pc + 1 + 1 := by
  apply BitVec.eq_of_toNat_eq; simp [State.pcAfter]

/-- A branch target as a sum of words. -/
theorem State.target_eq (s : State) (k : Nat) (rr : Byte) : s.target k rr = s.pcAfter k + sext rr := by
  have h : rr.signExtend 16 = BitVec.ofInt 16 rr.toInt := by
    apply BitVec.eq_of_toInt_eq
    rw [BitVec.toInt_signExtend_of_le (by decide), BitVec.toInt_ofInt, Int.bmod_eq_of_le] <;>
      have := rr.toInt_lt <;> have := rr.le_toInt <;> omega
  rw [State.target, State.pcAfter, sext, h, BitVec.ofInt_add, ← BitVec.ofInt_natCast]
  simp

/-! ## Operand bytes -/

/-- PC after an effective address is formed. -/
theorem State.enter_pc (s : State) (m : Mode) :
    (s.enter m).pc = match m with
      | .xInd => s.pc
      | .yInd => s.pc
      | .abs _ => s.pc + 1 + 1
      | .absX _ => s.pc + 1 + 1
      | .absY _ => s.pc + 1 + 1
      | _ => s.pc + 1 := by
  cases m <;> simp [State.enter]

/-- PC after the source operand of a form with destination A is read. -/
@[simp] theorem AccOperand.sourceRead_pc (o : AccOperand) (s : State) :
    (s.sourceRead o.source).pc = s.pcAfter o.bytes := by
  cases o <;> simp [AccOperand.source, AccOperand.bytes, State.sourceRead, State.enter]

/-- `last_addr` after a source operand is read. -/
@[simp] theorem State.sourceRead_lastAddr (s : State) (src : Source) :
    (s.sourceRead src).lastAddr = s.sourceAddr src := by
  cases src <;> simp [State.sourceRead, State.sourceAddr]

/-- PC after both operands of a form with a memory destination are read. -/
@[simp] theorem MemForm.reads_pc (f : MemForm) (s : State) :
    ((s.sourceRead f.source).enter f.dest).pc = s.pcAfter f.bytes := by
  cases f <;> simp [MemForm.source, MemForm.dest, MemForm.bytes, State.sourceRead, State.enter]

/-- PC after the operand bytes of a shift, rotate, INC or DEC of memory. -/
@[simp] theorem RmwForm.enter_pc (f : RmwForm) (s : State) : (s.enter f.mode).pc = s.pcAfter f.bytes := by
  cases f <;> simp [RmwForm.mode, RmwForm.bytes, State.enter]

/-- PC after the source operand of a load is read. -/
@[simp] theorem LoadForm.sourceRead_pc (f : LoadForm) (s : State) :
    (s.sourceRead f.source).pc = s.pcAfter f.bytes := by
  rcases f with o | _ | _ | _ | _ | _ | _ | _ | _
  case a => exact AccOperand.sourceRead_pc o s
  all_goals simp [LoadForm.source, LoadForm.bytes, State.sourceRead, State.enter]

/-- PC after the operand bytes of a store. -/
@[simp] theorem StoreForm.enter_pc (f : StoreForm) (s : State) : (s.enter f.mode).pc = s.pcAfter f.bytes := by
  cases f <;> simp [StoreForm.mode, StoreForm.bytes, State.enter]

/-- `last_addr` after an effective address is formed is an address, if it was one before. -/
theorem State.enter_lastAddr_le {s : State} (m : Mode) (h : s.lastAddr ≤ 0x10000) :
    (s.enter m).lastAddr ≤ 0x10000 := by
  have b : ∀ w : Word, w.toNat ≤ 0xFFFF := fun w => by have := w.isLt; omega
  cases m <;> simp only [State.enter, State.fetch8_lastAddr, State.fetch16_lastAddr, State.touchWord_lastAddr] <;>
    first
      | exact h
      | exact Nat.le_trans (b _) (by decide)
      | exact Nat.succ_le_succ (b _)

/-! ## Flag writes are the same on states with the same PSW and parameters -/

theorem State.aluFlags_psw_congr {s t : State} (hp : t.psw = s.psw) (hq : t.params = s.params) (op : Alu)
    (v1 v2 : Byte) : (t.aluFlags op v1 v2).psw = (s.aluFlags op v1 v2).psw := by
  cases s; cases t; cases hp; cases hq; cases op <;> rfl

theorem State.aluResult_congr {s t : State} (hp : t.psw = s.psw) (op : Alu) (v1 v2 : Byte) :
    t.aluResult op v1 v2 = s.aluResult op v1 v2 := by
  cases s; cases t; cases hp; cases op <;> rfl

theorem State.cmpFlags_psw_congr {s t : State} (hp : t.psw = s.psw) (v1 v2 : Byte) :
    (t.cmpFlags v1 v2).psw = (s.cmpFlags v1 v2).psw := by
  cases s; cases t; cases hp; rfl

theorem State.rmwFlags_psw_congr {s t : State} (hp : t.psw = s.psw) (op : Rmw) (v : Byte) :
    (t.rmwFlags op v).psw = (s.rmwFlags op v).psw := by
  cases s; cases t; cases hp; cases op <;> rfl

theorem State.rmwResult_congr {s t : State} (hp : t.psw = s.psw) (op : Rmw) (v : Byte) :
    t.rmwResult op v = s.rmwResult op v := by
  cases s; cases t; cases hp; cases op <;> rfl

theorem State.setNZ8_psw_congr {s t : State} (hp : t.psw = s.psw) (v : Byte) :
    (t.setNZ8 v).psw = (s.setNZ8 v).psw := by
  cases s; cases t; cases hp; rfl

theorem State.setNZ16_psw_congr {s t : State} (hp : t.psw = s.psw) (w : Word) :
    (t.setNZ16 w).psw = (s.setNZ16 w).psw := by
  cases s; cases t; cases hp; rfl

/-! ## Everything a shared operation can do -/

/-- An operation on A changes A, PSW, PC and `last_addr`. -/
theorem State.aluA_eq (s : State) (op : Alu) (src : Source) :
    s.aluA op src = { s with
      a := s.aluResult op s.a (s.sourceValue src), psw := (s.aluFlags op s.a (s.sourceValue src)).psw,
      pc := (s.sourceRead src).pc, lastAddr := s.sourceAddr src } := by
  apply State.ext <;> simp [State.aluA]
  exact State.aluFlags_psw_congr (by simp) (by simp) ..

/-- An operation on memory changes one byte of memory, PSW, PC and `last_addr`. -/
theorem State.aluMem_eq (s : State) (op : Alu) (src : Source) (dst : Mode) :
    s.aluMem op src dst = { s with
      psw := (s.aluFlags op (s.modeValue dst) (s.sourceValue src)).psw, pc := ((s.sourceRead src).enter dst).pc,
      mem := (s.memWrite (s.ea dst).toNat (s.aluResult op (s.modeValue dst) (s.sourceValue src))).mem,
      lastAddr := (s.ea dst).toNat } := by
  apply State.ext <;> simp [State.aluMem]
  exact State.aluFlags_psw_congr (by simp) (by simp) ..

/-- A compare with a register changes PSW, PC and `last_addr`. -/
theorem State.cmpReg_eq (s : State) (r : Reg) (src : Source) :
    s.cmpReg r src = { s with
      psw := (s.cmpFlags (s.reg r) (s.sourceValue src)).psw, pc := (s.sourceRead src).pc,
      lastAddr := s.sourceAddr src } := by
  apply State.ext <;> simp [State.cmpReg]
  exact State.cmpFlags_psw_congr (by simp) ..

/-- A compare with memory changes PSW, PC and `last_addr`. -/
theorem State.cmpMem_eq (s : State) (src : Source) (dst : Mode) :
    s.cmpMem src dst = { s with
      psw := (s.cmpFlags (s.modeValue dst) (s.sourceValue src)).psw, pc := ((s.sourceRead src).enter dst).pc,
      lastAddr := (s.ea dst).toNat } := by
  apply State.ext <;> simp [State.cmpMem]
  exact State.cmpFlags_psw_congr (by simp) ..

/-- A shift, rotate, INC or DEC of memory changes one byte of memory, PSW, PC and `last_addr`. -/
theorem State.rmwMem_eq (s : State) (op : Rmw) (m : Mode) :
    s.rmwMem op m = { s with
      psw := (s.rmwFlags op (s.modeValue m)).psw, pc := (s.enter m).pc,
      mem := (s.memWrite (s.ea m).toNat (s.rmwResult op (s.modeValue m))).mem, lastAddr := (s.ea m).toNat } := by
  apply State.ext <;> simp [State.rmwMem]
  exact State.rmwFlags_psw_congr (by simp) ..

/-- A load changes its register, PSW, PC and `last_addr`. -/
theorem State.load_eq (s : State) (r : Reg) (src : Source) :
    s.load r src = { s with
      a := if r = .a then s.sourceValue src else s.a
      x := if r = .x then s.sourceValue src else s.x
      y := if r = .y then s.sourceValue src else s.y
      psw := (s.setNZ8 (s.sourceValue src)).psw, pc := (s.sourceRead src).pc, lastAddr := s.sourceAddr src } := by
  apply State.ext <;> simp [State.load, State.loadValue]
  exact State.setNZ8_psw_congr (by simp) ..

/-- A store changes one byte of memory, PC and `last_addr`. -/
theorem State.store_eq (s : State) (r : Reg) (m : Mode) :
    s.store r m = { s with
      pc := (s.enter m).pc, mem := (s.memWrite (s.ea m).toNat (s.reg r)).mem, lastAddr := (s.ea m).toNat } := by
  apply State.ext <;> simp [State.store]

/-- A move to memory changes one byte of memory, PC and `last_addr`. -/
theorem State.moveMem_eq (s : State) (src : Source) (dst : Mode) :
    s.moveMem src dst = { s with
      pc := ((s.sourceRead src).enter dst).pc, mem := (s.memWrite (s.ea dst).toNat (s.sourceValue src)).mem,
      lastAddr := (s.ea dst).toNat } := by
  apply State.ext <;> simp [State.moveMem]

/-- The stack address of the first push (R252). -/
theorem State.pushSlot_one (s : State) :
    s.pushSlot 1 = match s.params.stackDiscipline with
      | .document => stackAddr (s.sp - 1)
      | .chip => stackAddr s.sp := by
  have := s.sp.isLt
  cases h : s.params.stackDiscipline
  · simp only [stackAddr, State.pushSlot, h, BitVec.toNat_sub]; simp; omega
  · simp only [stackAddr, State.pushSlot, h]; omega

/-- What a push leaves in memory (R252). -/
theorem State.peek_push8 (s : State) (v : Byte) (k : Nat) :
    (s.push8 v).peek k = if k = s.pushSlot 1 then v else s.peek k := by
  rw [State.pushSlot_one]
  cases h : s.params.stackDiscipline
  · simp only [State.push8, h]
    exact State.peek_memWrite_stack _ _ _ _
  · simp only [State.push8, h]
    exact State.peek_memWrite_stack s _ _ _

/-- `last_addr` after a push (R252). -/
theorem State.push8_lastAddr (s : State) (v : Byte) : (s.push8 v).lastAddr = s.pushSlot 1 := by
  rw [State.pushSlot_one]
  cases h : s.params.stackDiscipline <;> simp only [State.push8, h, State.memWrite_lastAddr]

/-- The slots of the pushes after one push. -/
theorem State.push8_pushSlot (s : State) (v : Byte) {k : Nat} (hk : 1 ≤ k) (hk' : k ≤ 3) :
    (s.push8 v).pushSlot k = s.pushSlot (k + 1) := by
  have := s.sp.isLt
  cases h : s.params.stackDiscipline <;>
    simp only [State.pushSlot, State.push8_params, State.push8_sp, h, BitVec.toNat_sub] <;> simp <;> omega

/-- What the push of a return address leaves in memory (R254). -/
theorem State.peek_pushPC (s : State) (k : Nat) :
    s.pushPC.peek k = if k = s.pushSlot 2 then s.secondPushed s.pc else if k = s.pushSlot 1 then s.firstPushed s.pc
      else s.peek k := by
  have lo : lowByte s.pc = BitVec.ofNat 8 s.pc.toNat := by
    apply BitVec.eq_of_toNat_eq; simp [lowByte]
  have hi : highByte s.pc = BitVec.ofNat 8 (s.pc.toNat / 0x100) := by
    apply BitVec.eq_of_toNat_eq; simp [highByte, Nat.shiftRight_eq_div_pow]
  cases h : s.params.stackDiscipline <;>
    simp [State.pushPC, h, State.peek_push8, State.push8_pushSlot, State.firstPushed, State.secondPushed, lo, hi]

/-- `last_addr` after the push of a return address. -/
theorem State.pushPC_lastAddr (s : State) : s.pushPC.lastAddr = s.pushSlot 2 := by
  cases h : s.params.stackDiscipline <;>
    simp [State.pushPC, h, State.push8_lastAddr, State.push8_pushSlot]

end Sys2Proof.Machine
end

