-- ==== Sys2Proof/Laws/PerInstr.lean ====
section
/-! SUPPORT. Statements for all instructions, one lemma for each constructor of `Instr`. -/

namespace Sys2Proof.Laws

/-- The row of the opcode table that an encoding's opcode byte selects has the encoding's length (R60, R80). -/
def EncodedLength.Statement (i : Instr) : Prop :=
  i.WellFormed → (rowOf ((encode i).headD 0)).map Row.length = some (encode i).length

/-- The rows of the bit formats (R78), for each bit number. -/
theorem encodedLength_bits : ∀ bit < 8,
    (rowOf (encodeBitOp 0x02 bit)).map Row.length = some 2 ∧ (rowOf (encodeBitOp 0x12 bit)).map Row.length = some 2 ∧
    (rowOf (encodeBitOp 0x03 bit)).map Row.length = some 3 ∧ (rowOf (encodeBitOp 0x13 bit)).map Row.length = some 3 := by
  decide +kernel

/-- The row of TCALL (R79), for each index. -/
theorem encodedLength_tcall : ∀ n < 16, (rowOf (0x01 ||| BitVec.ofNat 8 (16 * n))).map Row.length = some 1 := by
  decide +kernel

/-- The rows whose opcode byte has high nibble 0. -/
theorem encodedLength_0x :
    (rowOf 0x00).map Row.length = some 1 ∧ (rowOf 0x04).map Row.length = some 2 ∧
    (rowOf 0x05).map Row.length = some 3 ∧ (rowOf 0x06).map Row.length = some 1 ∧
    (rowOf 0x07).map Row.length = some 2 ∧ (rowOf 0x08).map Row.length = some 2 ∧
    (rowOf 0x09).map Row.length = some 3 ∧ (rowOf 0x0A).map Row.length = some 3 ∧
    (rowOf 0x0B).map Row.length = some 2 ∧ (rowOf 0x0C).map Row.length = some 3 ∧
    (rowOf 0x0D).map Row.length = some 1 ∧ (rowOf 0x0E).map Row.length = some 3 ∧
    (rowOf 0x0F).map Row.length = some 1 := by
  decide +kernel

/-- The rows whose opcode byte has high nibble 1. -/
theorem encodedLength_1x :
    (rowOf 0x10).map Row.length = some 2 ∧ (rowOf 0x14).map Row.length = some 2 ∧
    (rowOf 0x15).map Row.length = some 3 ∧ (rowOf 0x16).map Row.length = some 3 ∧
    (rowOf 0x17).map Row.length = some 2 ∧ (rowOf 0x18).map Row.length = some 3 ∧
    (rowOf 0x19).map Row.length = some 1 ∧ (rowOf 0x1A).map Row.length = some 2 ∧
    (rowOf 0x1B).map Row.length = some 2 ∧ (rowOf 0x1C).map Row.length = some 1 ∧
    (rowOf 0x1D).map Row.length = some 1 ∧ (rowOf 0x1E).map Row.length = some 3 ∧
    (rowOf 0x1F).map Row.length = some 3 := by
  decide +kernel

/-- The rows whose opcode byte has high nibble 2. -/
theorem encodedLength_2x :
    (rowOf 0x20).map Row.length = some 1 ∧ (rowOf 0x24).map Row.length = some 2 ∧
    (rowOf 0x25).map Row.length = some 3 ∧ (rowOf 0x26).map Row.length = some 1 ∧
    (rowOf 0x27).map Row.length = some 2 ∧ (rowOf 0x28).map Row.length = some 2 ∧
    (rowOf 0x29).map Row.length = some 3 ∧ (rowOf 0x2A).map Row.length = some 3 ∧
    (rowOf 0x2B).map Row.length = some 2 ∧ (rowOf 0x2C).map Row.length = some 3 ∧
    (rowOf 0x2D).map Row.length = some 1 ∧ (rowOf 0x2E).map Row.length = some 3 ∧
    (rowOf 0x2F).map Row.length = some 2 := by
  decide +kernel

/-- The rows whose opcode byte has high nibble 3. -/
theorem encodedLength_3x :
    (rowOf 0x30).map Row.length = some 2 ∧ (rowOf 0x34).map Row.length = some 2 ∧
    (rowOf 0x35).map Row.length = some 3 ∧ (rowOf 0x36).map Row.length = some 3 ∧
    (rowOf 0x37).map Row.length = some 2 ∧ (rowOf 0x38).map Row.length = some 3 ∧
    (rowOf 0x39).map Row.length = some 1 ∧ (rowOf 0x3A).map Row.length = some 2 ∧
    (rowOf 0x3B).map Row.length = some 2 ∧ (rowOf 0x3C).map Row.length = some 1 ∧
    (rowOf 0x3D).map Row.length = some 1 ∧ (rowOf 0x3E).map Row.length = some 2 ∧
    (rowOf 0x3F).map Row.length = some 3 := by
  decide +kernel

/-- The rows whose opcode byte has high nibble 4. -/
theorem encodedLength_4x :
    (rowOf 0x40).map Row.length = some 1 ∧ (rowOf 0x44).map Row.length = some 2 ∧
    (rowOf 0x45).map Row.length = some 3 ∧ (rowOf 0x46).map Row.length = some 1 ∧
    (rowOf 0x47).map Row.length = some 2 ∧ (rowOf 0x48).map Row.length = some 2 ∧
    (rowOf 0x49).map Row.length = some 3 ∧ (rowOf 0x4A).map Row.length = some 3 ∧
    (rowOf 0x4B).map Row.length = some 2 ∧ (rowOf 0x4C).map Row.length = some 3 ∧
    (rowOf 0x4D).map Row.length = some 1 ∧ (rowOf 0x4E).map Row.length = some 3 ∧
    (rowOf 0x4F).map Row.length = some 2 := by
  decide +kernel

/-- The rows whose opcode byte has high nibble 5. -/
theorem encodedLength_5x :
    (rowOf 0x50).map Row.length = some 2 ∧ (rowOf 0x54).map Row.length = some 2 ∧
    (rowOf 0x55).map Row.length = some 3 ∧ (rowOf 0x56).map Row.length = some 3 ∧
    (rowOf 0x57).map Row.length = some 2 ∧ (rowOf 0x58).map Row.length = some 3 ∧
    (rowOf 0x59).map Row.length = some 1 ∧ (rowOf 0x5A).map Row.length = some 2 ∧
    (rowOf 0x5B).map Row.length = some 2 ∧ (rowOf 0x5C).map Row.length = some 1 ∧
    (rowOf 0x5D).map Row.length = some 1 ∧ (rowOf 0x5E).map Row.length = some 3 ∧
    (rowOf 0x5F).map Row.length = some 3 := by
  decide +kernel

/-- The rows whose opcode byte has high nibble 6. -/
theorem encodedLength_6x :
    (rowOf 0x60).map Row.length = some 1 ∧ (rowOf 0x64).map Row.length = some 2 ∧
    (rowOf 0x65).map Row.length = some 3 ∧ (rowOf 0x66).map Row.length = some 1 ∧
    (rowOf 0x67).map Row.length = some 2 ∧ (rowOf 0x68).map Row.length = some 2 ∧
    (rowOf 0x69).map Row.length = some 3 ∧ (rowOf 0x6A).map Row.length = some 3 ∧
    (rowOf 0x6B).map Row.length = some 2 ∧ (rowOf 0x6C).map Row.length = some 3 ∧
    (rowOf 0x6D).map Row.length = some 1 ∧ (rowOf 0x6E).map Row.length = some 3 ∧
    (rowOf 0x6F).map Row.length = some 1 := by
  decide +kernel

/-- The rows whose opcode byte has high nibble 7. -/
theorem encodedLength_7x :
    (rowOf 0x70).map Row.length = some 2 ∧ (rowOf 0x74).map Row.length = some 2 ∧
    (rowOf 0x75).map Row.length = some 3 ∧ (rowOf 0x76).map Row.length = some 3 ∧
    (rowOf 0x77).map Row.length = some 2 ∧ (rowOf 0x78).map Row.length = some 3 ∧
    (rowOf 0x79).map Row.length = some 1 ∧ (rowOf 0x7A).map Row.length = some 2 ∧
    (rowOf 0x7B).map Row.length = some 2 ∧ (rowOf 0x7C).map Row.length = some 1 ∧
    (rowOf 0x7D).map Row.length = some 1 ∧ (rowOf 0x7E).map Row.length = some 2 ∧
    (rowOf 0x7F).map Row.length = some 1 := by
  decide +kernel

/-- The rows whose opcode byte has high nibble 8. -/
theorem encodedLength_8x :
    (rowOf 0x80).map Row.length = some 1 ∧ (rowOf 0x84).map Row.length = some 2 ∧
    (rowOf 0x85).map Row.length = some 3 ∧ (rowOf 0x86).map Row.length = some 1 ∧
    (rowOf 0x87).map Row.length = some 2 ∧ (rowOf 0x88).map Row.length = some 2 ∧
    (rowOf 0x89).map Row.length = some 3 ∧ (rowOf 0x8A).map Row.length = some 3 ∧
    (rowOf 0x8B).map Row.length = some 2 ∧ (rowOf 0x8C).map Row.length = some 3 ∧
    (rowOf 0x8D).map Row.length = some 2 ∧ (rowOf 0x8E).map Row.length = some 1 ∧
    (rowOf 0x8F).map Row.length = some 3 := by
  decide +kernel

/-- The rows whose opcode byte has high nibble 9. -/
theorem encodedLength_9x :
    (rowOf 0x90).map Row.length = some 2 ∧ (rowOf 0x94).map Row.length = some 2 ∧
    (rowOf 0x95).map Row.length = some 3 ∧ (rowOf 0x96).map Row.length = some 3 ∧
    (rowOf 0x97).map Row.length = some 2 ∧ (rowOf 0x98).map Row.length = some 3 ∧
    (rowOf 0x99).map Row.length = some 1 ∧ (rowOf 0x9A).map Row.length = some 2 ∧
    (rowOf 0x9B).map Row.length = some 2 ∧ (rowOf 0x9C).map Row.length = some 1 ∧
    (rowOf 0x9D).map Row.length = some 1 ∧ (rowOf 0x9E).map Row.length = some 1 ∧
    (rowOf 0x9F).map Row.length = some 1 := by
  decide +kernel

/-- The rows whose opcode byte has high nibble A. -/
theorem encodedLength_Ax :
    (rowOf 0xA0).map Row.length = some 1 ∧ (rowOf 0xA4).map Row.length = some 2 ∧
    (rowOf 0xA5).map Row.length = some 3 ∧ (rowOf 0xA6).map Row.length = some 1 ∧
    (rowOf 0xA7).map Row.length = some 2 ∧ (rowOf 0xA8).map Row.length = some 2 ∧
    (rowOf 0xA9).map Row.length = some 3 ∧ (rowOf 0xAA).map Row.length = some 3 ∧
    (rowOf 0xAB).map Row.length = some 2 ∧ (rowOf 0xAC).map Row.length = some 3 ∧
    (rowOf 0xAD).map Row.length = some 2 ∧ (rowOf 0xAE).map Row.length = some 1 ∧
    (rowOf 0xAF).map Row.length = some 1 := by
  decide +kernel

/-- The rows whose opcode byte has high nibble B. -/
theorem encodedLength_Bx :
    (rowOf 0xB0).map Row.length = some 2 ∧ (rowOf 0xB4).map Row.length = some 2 ∧
    (rowOf 0xB5).map Row.length = some 3 ∧ (rowOf 0xB6).map Row.length = some 3 ∧
    (rowOf 0xB7).map Row.length = some 2 ∧ (rowOf 0xB8).map Row.length = some 3 ∧
    (rowOf 0xB9).map Row.length = some 1 ∧ (rowOf 0xBA).map Row.length = some 2 ∧
    (rowOf 0xBB).map Row.length = some 2 ∧ (rowOf 0xBC).map Row.length = some 1 ∧
    (rowOf 0xBD).map Row.length = some 1 ∧ (rowOf 0xBE).map Row.length = some 1 ∧
    (rowOf 0xBF).map Row.length = some 1 := by
  decide +kernel

/-- The rows whose opcode byte has high nibble C. -/
theorem encodedLength_Cx :
    (rowOf 0xC0).map Row.length = some 1 ∧ (rowOf 0xC4).map Row.length = some 2 ∧
    (rowOf 0xC5).map Row.length = some 3 ∧ (rowOf 0xC6).map Row.length = some 1 ∧
    (rowOf 0xC7).map Row.length = some 2 ∧ (rowOf 0xC8).map Row.length = some 2 ∧
    (rowOf 0xC9).map Row.length = some 3 ∧ (rowOf 0xCA).map Row.length = some 3 ∧
    (rowOf 0xCB).map Row.length = some 2 ∧ (rowOf 0xCC).map Row.length = some 3 ∧
    (rowOf 0xCD).map Row.length = some 2 ∧ (rowOf 0xCE).map Row.length = some 1 ∧
    (rowOf 0xCF).map Row.length = some 1 := by
  decide +kernel

/-- The rows whose opcode byte has high nibble D. -/
theorem encodedLength_Dx :
    (rowOf 0xD0).map Row.length = some 2 ∧ (rowOf 0xD4).map Row.length = some 2 ∧
    (rowOf 0xD5).map Row.length = some 3 ∧ (rowOf 0xD6).map Row.length = some 3 ∧
    (rowOf 0xD7).map Row.length = some 2 ∧ (rowOf 0xD8).map Row.length = some 2 ∧
    (rowOf 0xD9).map Row.length = some 2 ∧ (rowOf 0xDA).map Row.length = some 2 ∧
    (rowOf 0xDB).map Row.length = some 2 ∧ (rowOf 0xDC).map Row.length = some 1 ∧
    (rowOf 0xDD).map Row.length = some 1 ∧ (rowOf 0xDE).map Row.length = some 3 ∧
    (rowOf 0xDF).map Row.length = some 1 := by
  decide +kernel

/-- The rows whose opcode byte has high nibble E. -/
theorem encodedLength_Ex :
    (rowOf 0xE0).map Row.length = some 1 ∧ (rowOf 0xE4).map Row.length = some 2 ∧
    (rowOf 0xE5).map Row.length = some 3 ∧ (rowOf 0xE6).map Row.length = some 1 ∧
    (rowOf 0xE7).map Row.length = some 2 ∧ (rowOf 0xE8).map Row.length = some 2 ∧
    (rowOf 0xE9).map Row.length = some 3 ∧ (rowOf 0xEA).map Row.length = some 3 ∧
    (rowOf 0xEB).map Row.length = some 2 ∧ (rowOf 0xEC).map Row.length = some 3 ∧
    (rowOf 0xED).map Row.length = some 1 ∧ (rowOf 0xEE).map Row.length = some 1 ∧
    (rowOf 0xEF).map Row.length = some 1 := by
  decide +kernel

/-- The rows whose opcode byte has high nibble F. -/
theorem encodedLength_Fx :
    (rowOf 0xF0).map Row.length = some 2 ∧ (rowOf 0xF4).map Row.length = some 2 ∧
    (rowOf 0xF5).map Row.length = some 3 ∧ (rowOf 0xF6).map Row.length = some 3 ∧
    (rowOf 0xF7).map Row.length = some 2 ∧ (rowOf 0xF8).map Row.length = some 2 ∧
    (rowOf 0xF9).map Row.length = some 2 ∧ (rowOf 0xFA).map Row.length = some 3 ∧
    (rowOf 0xFB).map Row.length = some 2 ∧ (rowOf 0xFC).map Row.length = some 1 ∧
    (rowOf 0xFD).map Row.length = some 1 ∧ (rowOf 0xFE).map Row.length = some 2 ∧
    (rowOf 0xFF).map Row.length = some 1 := by
  decide +kernel

theorem EncodedLength.nop : EncodedLength.Statement .nop :=
  fun _ => encodedLength_0x.1
theorem EncodedLength.tcall (n : Nat) : EncodedLength.Statement (.tcall n) :=
  fun h => encodedLength_tcall n (of_decide_eq_true h)
theorem EncodedLength.set1 (bit : Nat) (dd : Byte) : EncodedLength.Statement (.set1 bit dd) :=
  fun h => (encodedLength_bits bit (of_decide_eq_true h)).1
theorem EncodedLength.bbs (bit : Nat) (dd : Byte) (rr : Byte) : EncodedLength.Statement (.bbs bit dd rr) :=
  fun h => (encodedLength_bits bit (of_decide_eq_true h)).2.2.1
theorem EncodedLength.orADp (dd : Byte) : EncodedLength.Statement (.orADp dd) :=
  fun _ => encodedLength_0x.2.1
theorem EncodedLength.orAAbs (addr : Word) : EncodedLength.Statement (.orAAbs addr) :=
  fun _ => encodedLength_0x.2.2.1
theorem EncodedLength.orAXInd : EncodedLength.Statement .orAXInd :=
  fun _ => encodedLength_0x.2.2.2.1
theorem EncodedLength.orAIndX (dd : Byte) : EncodedLength.Statement (.orAIndX dd) :=
  fun _ => encodedLength_0x.2.2.2.2.1
theorem EncodedLength.orAImm (ii : Byte) : EncodedLength.Statement (.orAImm ii) :=
  fun _ => encodedLength_0x.2.2.2.2.2.1
theorem EncodedLength.orDpDp (ss : Byte) (dd : Byte) : EncodedLength.Statement (.orDpDp ss dd) :=
  fun _ => encodedLength_0x.2.2.2.2.2.2.1
theorem EncodedLength.or1CMem (bit : Nat) (addr : BitVec 13) : EncodedLength.Statement (.or1CMem bit addr) :=
  fun _ => encodedLength_0x.2.2.2.2.2.2.2.1
theorem EncodedLength.aslDp (dd : Byte) : EncodedLength.Statement (.aslDp dd) :=
  fun _ => encodedLength_0x.2.2.2.2.2.2.2.2.1
theorem EncodedLength.aslAbs (addr : Word) : EncodedLength.Statement (.aslAbs addr) :=
  fun _ => encodedLength_0x.2.2.2.2.2.2.2.2.2.1
theorem EncodedLength.pushPsw : EncodedLength.Statement .pushPsw :=
  fun _ => encodedLength_0x.2.2.2.2.2.2.2.2.2.2.1
theorem EncodedLength.tset1 (addr : Word) : EncodedLength.Statement (.tset1 addr) :=
  fun _ => encodedLength_0x.2.2.2.2.2.2.2.2.2.2.2.1
theorem EncodedLength.brk : EncodedLength.Statement .brk :=
  fun _ => encodedLength_0x.2.2.2.2.2.2.2.2.2.2.2.2
theorem EncodedLength.bpl (rr : Byte) : EncodedLength.Statement (.bpl rr) :=
  fun _ => encodedLength_1x.1
theorem EncodedLength.clr1 (bit : Nat) (dd : Byte) : EncodedLength.Statement (.clr1 bit dd) :=
  fun h => (encodedLength_bits bit (of_decide_eq_true h)).2.1
theorem EncodedLength.bbc (bit : Nat) (dd : Byte) (rr : Byte) : EncodedLength.Statement (.bbc bit dd rr) :=
  fun h => (encodedLength_bits bit (of_decide_eq_true h)).2.2.2
theorem EncodedLength.orADpX (dd : Byte) : EncodedLength.Statement (.orADpX dd) :=
  fun _ => encodedLength_1x.2.1
theorem EncodedLength.orAAbsX (addr : Word) : EncodedLength.Statement (.orAAbsX addr) :=
  fun _ => encodedLength_1x.2.2.1
theorem EncodedLength.orAAbsY (addr : Word) : EncodedLength.Statement (.orAAbsY addr) :=
  fun _ => encodedLength_1x.2.2.2.1
theorem EncodedLength.orAIndY (dd : Byte) : EncodedLength.Statement (.orAIndY dd) :=
  fun _ => encodedLength_1x.2.2.2.2.1
theorem EncodedLength.orDpImm (ii : Byte) (dd : Byte) : EncodedLength.Statement (.orDpImm ii dd) :=
  fun _ => encodedLength_1x.2.2.2.2.2.1
theorem EncodedLength.orXY : EncodedLength.Statement .orXY :=
  fun _ => encodedLength_1x.2.2.2.2.2.2.1
theorem EncodedLength.decw (dd : Byte) : EncodedLength.Statement (.decw dd) :=
  fun _ => encodedLength_1x.2.2.2.2.2.2.2.1
theorem EncodedLength.aslDpX (dd : Byte) : EncodedLength.Statement (.aslDpX dd) :=
  fun _ => encodedLength_1x.2.2.2.2.2.2.2.2.1
theorem EncodedLength.aslA : EncodedLength.Statement .aslA :=
  fun _ => encodedLength_1x.2.2.2.2.2.2.2.2.2.1
theorem EncodedLength.decX : EncodedLength.Statement .decX :=
  fun _ => encodedLength_1x.2.2.2.2.2.2.2.2.2.2.1
theorem EncodedLength.cmpXAbs (addr : Word) : EncodedLength.Statement (.cmpXAbs addr) :=
  fun _ => encodedLength_1x.2.2.2.2.2.2.2.2.2.2.2.1
theorem EncodedLength.jmpAbsXInd (addr : Word) : EncodedLength.Statement (.jmpAbsXInd addr) :=
  fun _ => encodedLength_1x.2.2.2.2.2.2.2.2.2.2.2.2
theorem EncodedLength.clrp : EncodedLength.Statement .clrp :=
  fun _ => encodedLength_2x.1
theorem EncodedLength.andADp (dd : Byte) : EncodedLength.Statement (.andADp dd) :=
  fun _ => encodedLength_2x.2.1
theorem EncodedLength.andAAbs (addr : Word) : EncodedLength.Statement (.andAAbs addr) :=
  fun _ => encodedLength_2x.2.2.1
theorem EncodedLength.andAXInd : EncodedLength.Statement .andAXInd :=
  fun _ => encodedLength_2x.2.2.2.1
theorem EncodedLength.andAIndX (dd : Byte) : EncodedLength.Statement (.andAIndX dd) :=
  fun _ => encodedLength_2x.2.2.2.2.1
theorem EncodedLength.andAImm (ii : Byte) : EncodedLength.Statement (.andAImm ii) :=
  fun _ => encodedLength_2x.2.2.2.2.2.1
theorem EncodedLength.andDpDp (ss : Byte) (dd : Byte) : EncodedLength.Statement (.andDpDp ss dd) :=
  fun _ => encodedLength_2x.2.2.2.2.2.2.1
theorem EncodedLength.or1CNotMem (bit : Nat) (addr : BitVec 13) : EncodedLength.Statement (.or1CNotMem bit addr) :=
  fun _ => encodedLength_2x.2.2.2.2.2.2.2.1
theorem EncodedLength.rolDp (dd : Byte) : EncodedLength.Statement (.rolDp dd) :=
  fun _ => encodedLength_2x.2.2.2.2.2.2.2.2.1
theorem EncodedLength.rolAbs (addr : Word) : EncodedLength.Statement (.rolAbs addr) :=
  fun _ => encodedLength_2x.2.2.2.2.2.2.2.2.2.1
theorem EncodedLength.pushA : EncodedLength.Statement .pushA :=
  fun _ => encodedLength_2x.2.2.2.2.2.2.2.2.2.2.1
theorem EncodedLength.cbneDp (dd : Byte) (rr : Byte) : EncodedLength.Statement (.cbneDp dd rr) :=
  fun _ => encodedLength_2x.2.2.2.2.2.2.2.2.2.2.2.1
theorem EncodedLength.bra (rr : Byte) : EncodedLength.Statement (.bra rr) :=
  fun _ => encodedLength_2x.2.2.2.2.2.2.2.2.2.2.2.2
theorem EncodedLength.bmi (rr : Byte) : EncodedLength.Statement (.bmi rr) :=
  fun _ => encodedLength_3x.1
theorem EncodedLength.andADpX (dd : Byte) : EncodedLength.Statement (.andADpX dd) :=
  fun _ => encodedLength_3x.2.1
theorem EncodedLength.andAAbsX (addr : Word) : EncodedLength.Statement (.andAAbsX addr) :=
  fun _ => encodedLength_3x.2.2.1
theorem EncodedLength.andAAbsY (addr : Word) : EncodedLength.Statement (.andAAbsY addr) :=
  fun _ => encodedLength_3x.2.2.2.1
theorem EncodedLength.andAIndY (dd : Byte) : EncodedLength.Statement (.andAIndY dd) :=
  fun _ => encodedLength_3x.2.2.2.2.1
theorem EncodedLength.andDpImm (ii : Byte) (dd : Byte) : EncodedLength.Statement (.andDpImm ii dd) :=
  fun _ => encodedLength_3x.2.2.2.2.2.1
theorem EncodedLength.andXY : EncodedLength.Statement .andXY :=
  fun _ => encodedLength_3x.2.2.2.2.2.2.1
theorem EncodedLength.incw (dd : Byte) : EncodedLength.Statement (.incw dd) :=
  fun _ => encodedLength_3x.2.2.2.2.2.2.2.1
theorem EncodedLength.rolDpX (dd : Byte) : EncodedLength.Statement (.rolDpX dd) :=
  fun _ => encodedLength_3x.2.2.2.2.2.2.2.2.1
theorem EncodedLength.rolA : EncodedLength.Statement .rolA :=
  fun _ => encodedLength_3x.2.2.2.2.2.2.2.2.2.1
theorem EncodedLength.incX : EncodedLength.Statement .incX :=
  fun _ => encodedLength_3x.2.2.2.2.2.2.2.2.2.2.1
theorem EncodedLength.cmpXDp (dd : Byte) : EncodedLength.Statement (.cmpXDp dd) :=
  fun _ => encodedLength_3x.2.2.2.2.2.2.2.2.2.2.2.1
theorem EncodedLength.call (addr : Word) : EncodedLength.Statement (.call addr) :=
  fun _ => encodedLength_3x.2.2.2.2.2.2.2.2.2.2.2.2
theorem EncodedLength.setp : EncodedLength.Statement .setp :=
  fun _ => encodedLength_4x.1
theorem EncodedLength.eorADp (dd : Byte) : EncodedLength.Statement (.eorADp dd) :=
  fun _ => encodedLength_4x.2.1
theorem EncodedLength.eorAAbs (addr : Word) : EncodedLength.Statement (.eorAAbs addr) :=
  fun _ => encodedLength_4x.2.2.1
theorem EncodedLength.eorAXInd : EncodedLength.Statement .eorAXInd :=
  fun _ => encodedLength_4x.2.2.2.1
theorem EncodedLength.eorAIndX (dd : Byte) : EncodedLength.Statement (.eorAIndX dd) :=
  fun _ => encodedLength_4x.2.2.2.2.1
theorem EncodedLength.eorAImm (ii : Byte) : EncodedLength.Statement (.eorAImm ii) :=
  fun _ => encodedLength_4x.2.2.2.2.2.1
theorem EncodedLength.eorDpDp (ss : Byte) (dd : Byte) : EncodedLength.Statement (.eorDpDp ss dd) :=
  fun _ => encodedLength_4x.2.2.2.2.2.2.1
theorem EncodedLength.and1CMem (bit : Nat) (addr : BitVec 13) : EncodedLength.Statement (.and1CMem bit addr) :=
  fun _ => encodedLength_4x.2.2.2.2.2.2.2.1
theorem EncodedLength.lsrDp (dd : Byte) : EncodedLength.Statement (.lsrDp dd) :=
  fun _ => encodedLength_4x.2.2.2.2.2.2.2.2.1
theorem EncodedLength.lsrAbs (addr : Word) : EncodedLength.Statement (.lsrAbs addr) :=
  fun _ => encodedLength_4x.2.2.2.2.2.2.2.2.2.1
theorem EncodedLength.pushX : EncodedLength.Statement .pushX :=
  fun _ => encodedLength_4x.2.2.2.2.2.2.2.2.2.2.1
theorem EncodedLength.tclr1 (addr : Word) : EncodedLength.Statement (.tclr1 addr) :=
  fun _ => encodedLength_4x.2.2.2.2.2.2.2.2.2.2.2.1
theorem EncodedLength.pcall (uu : Byte) : EncodedLength.Statement (.pcall uu) :=
  fun _ => encodedLength_4x.2.2.2.2.2.2.2.2.2.2.2.2
theorem EncodedLength.bvc (rr : Byte) : EncodedLength.Statement (.bvc rr) :=
  fun _ => encodedLength_5x.1
theorem EncodedLength.eorADpX (dd : Byte) : EncodedLength.Statement (.eorADpX dd) :=
  fun _ => encodedLength_5x.2.1
theorem EncodedLength.eorAAbsX (addr : Word) : EncodedLength.Statement (.eorAAbsX addr) :=
  fun _ => encodedLength_5x.2.2.1
theorem EncodedLength.eorAAbsY (addr : Word) : EncodedLength.Statement (.eorAAbsY addr) :=
  fun _ => encodedLength_5x.2.2.2.1
theorem EncodedLength.eorAIndY (dd : Byte) : EncodedLength.Statement (.eorAIndY dd) :=
  fun _ => encodedLength_5x.2.2.2.2.1
theorem EncodedLength.eorDpImm (ii : Byte) (dd : Byte) : EncodedLength.Statement (.eorDpImm ii dd) :=
  fun _ => encodedLength_5x.2.2.2.2.2.1
theorem EncodedLength.eorXY : EncodedLength.Statement .eorXY :=
  fun _ => encodedLength_5x.2.2.2.2.2.2.1
theorem EncodedLength.cmpw (dd : Byte) : EncodedLength.Statement (.cmpw dd) :=
  fun _ => encodedLength_5x.2.2.2.2.2.2.2.1
theorem EncodedLength.lsrDpX (dd : Byte) : EncodedLength.Statement (.lsrDpX dd) :=
  fun _ => encodedLength_5x.2.2.2.2.2.2.2.2.1
theorem EncodedLength.lsrA : EncodedLength.Statement .lsrA :=
  fun _ => encodedLength_5x.2.2.2.2.2.2.2.2.2.1
theorem EncodedLength.movXA : EncodedLength.Statement .movXA :=
  fun _ => encodedLength_5x.2.2.2.2.2.2.2.2.2.2.1
theorem EncodedLength.cmpYAbs (addr : Word) : EncodedLength.Statement (.cmpYAbs addr) :=
  fun _ => encodedLength_5x.2.2.2.2.2.2.2.2.2.2.2.1
theorem EncodedLength.jmpAbs (addr : Word) : EncodedLength.Statement (.jmpAbs addr) :=
  fun _ => encodedLength_5x.2.2.2.2.2.2.2.2.2.2.2.2
theorem EncodedLength.clrc : EncodedLength.Statement .clrc :=
  fun _ => encodedLength_6x.1
theorem EncodedLength.cmpADp (dd : Byte) : EncodedLength.Statement (.cmpADp dd) :=
  fun _ => encodedLength_6x.2.1
theorem EncodedLength.cmpAAbs (addr : Word) : EncodedLength.Statement (.cmpAAbs addr) :=
  fun _ => encodedLength_6x.2.2.1
theorem EncodedLength.cmpAXInd : EncodedLength.Statement .cmpAXInd :=
  fun _ => encodedLength_6x.2.2.2.1
theorem EncodedLength.cmpAIndX (dd : Byte) : EncodedLength.Statement (.cmpAIndX dd) :=
  fun _ => encodedLength_6x.2.2.2.2.1
theorem EncodedLength.cmpAImm (ii : Byte) : EncodedLength.Statement (.cmpAImm ii) :=
  fun _ => encodedLength_6x.2.2.2.2.2.1
theorem EncodedLength.cmpDpDp (ss : Byte) (dd : Byte) : EncodedLength.Statement (.cmpDpDp ss dd) :=
  fun _ => encodedLength_6x.2.2.2.2.2.2.1
theorem EncodedLength.and1CNotMem (bit : Nat) (addr : BitVec 13) : EncodedLength.Statement (.and1CNotMem bit addr) :=
  fun _ => encodedLength_6x.2.2.2.2.2.2.2.1
theorem EncodedLength.rorDp (dd : Byte) : EncodedLength.Statement (.rorDp dd) :=
  fun _ => encodedLength_6x.2.2.2.2.2.2.2.2.1
theorem EncodedLength.rorAbs (addr : Word) : EncodedLength.Statement (.rorAbs addr) :=
  fun _ => encodedLength_6x.2.2.2.2.2.2.2.2.2.1
theorem EncodedLength.pushY : EncodedLength.Statement .pushY :=
  fun _ => encodedLength_6x.2.2.2.2.2.2.2.2.2.2.1
theorem EncodedLength.dbnzDp (dd : Byte) (rr : Byte) : EncodedLength.Statement (.dbnzDp dd rr) :=
  fun _ => encodedLength_6x.2.2.2.2.2.2.2.2.2.2.2.1
theorem EncodedLength.ret : EncodedLength.Statement .ret :=
  fun _ => encodedLength_6x.2.2.2.2.2.2.2.2.2.2.2.2
theorem EncodedLength.bvs (rr : Byte) : EncodedLength.Statement (.bvs rr) :=
  fun _ => encodedLength_7x.1
theorem EncodedLength.cmpADpX (dd : Byte) : EncodedLength.Statement (.cmpADpX dd) :=
  fun _ => encodedLength_7x.2.1
theorem EncodedLength.cmpAAbsX (addr : Word) : EncodedLength.Statement (.cmpAAbsX addr) :=
  fun _ => encodedLength_7x.2.2.1
theorem EncodedLength.cmpAAbsY (addr : Word) : EncodedLength.Statement (.cmpAAbsY addr) :=
  fun _ => encodedLength_7x.2.2.2.1
theorem EncodedLength.cmpAIndY (dd : Byte) : EncodedLength.Statement (.cmpAIndY dd) :=
  fun _ => encodedLength_7x.2.2.2.2.1
theorem EncodedLength.cmpDpImm (ii : Byte) (dd : Byte) : EncodedLength.Statement (.cmpDpImm ii dd) :=
  fun _ => encodedLength_7x.2.2.2.2.2.1
theorem EncodedLength.cmpXY : EncodedLength.Statement .cmpXY :=
  fun _ => encodedLength_7x.2.2.2.2.2.2.1
theorem EncodedLength.addw (dd : Byte) : EncodedLength.Statement (.addw dd) :=
  fun _ => encodedLength_7x.2.2.2.2.2.2.2.1
theorem EncodedLength.rorDpX (dd : Byte) : EncodedLength.Statement (.rorDpX dd) :=
  fun _ => encodedLength_7x.2.2.2.2.2.2.2.2.1
theorem EncodedLength.rorA : EncodedLength.Statement .rorA :=
  fun _ => encodedLength_7x.2.2.2.2.2.2.2.2.2.1
theorem EncodedLength.movAX : EncodedLength.Statement .movAX :=
  fun _ => encodedLength_7x.2.2.2.2.2.2.2.2.2.2.1
theorem EncodedLength.cmpYDp (dd : Byte) : EncodedLength.Statement (.cmpYDp dd) :=
  fun _ => encodedLength_7x.2.2.2.2.2.2.2.2.2.2.2.1
theorem EncodedLength.reti : EncodedLength.Statement .reti :=
  fun _ => encodedLength_7x.2.2.2.2.2.2.2.2.2.2.2.2
theorem EncodedLength.setc : EncodedLength.Statement .setc :=
  fun _ => encodedLength_8x.1
theorem EncodedLength.adcADp (dd : Byte) : EncodedLength.Statement (.adcADp dd) :=
  fun _ => encodedLength_8x.2.1
theorem EncodedLength.adcAAbs (addr : Word) : EncodedLength.Statement (.adcAAbs addr) :=
  fun _ => encodedLength_8x.2.2.1
theorem EncodedLength.adcAXInd : EncodedLength.Statement .adcAXInd :=
  fun _ => encodedLength_8x.2.2.2.1
theorem EncodedLength.adcAIndX (dd : Byte) : EncodedLength.Statement (.adcAIndX dd) :=
  fun _ => encodedLength_8x.2.2.2.2.1
theorem EncodedLength.adcAImm (ii : Byte) : EncodedLength.Statement (.adcAImm ii) :=
  fun _ => encodedLength_8x.2.2.2.2.2.1
theorem EncodedLength.adcDpDp (ss : Byte) (dd : Byte) : EncodedLength.Statement (.adcDpDp ss dd) :=
  fun _ => encodedLength_8x.2.2.2.2.2.2.1
theorem EncodedLength.eor1CMem (bit : Nat) (addr : BitVec 13) : EncodedLength.Statement (.eor1CMem bit addr) :=
  fun _ => encodedLength_8x.2.2.2.2.2.2.2.1
theorem EncodedLength.decDp (dd : Byte) : EncodedLength.Statement (.decDp dd) :=
  fun _ => encodedLength_8x.2.2.2.2.2.2.2.2.1
theorem EncodedLength.decAbs (addr : Word) : EncodedLength.Statement (.decAbs addr) :=
  fun _ => encodedLength_8x.2.2.2.2.2.2.2.2.2.1
theorem EncodedLength.movYImm (ii : Byte) : EncodedLength.Statement (.movYImm ii) :=
  fun _ => encodedLength_8x.2.2.2.2.2.2.2.2.2.2.1
theorem EncodedLength.popPsw : EncodedLength.Statement .popPsw :=
  fun _ => encodedLength_8x.2.2.2.2.2.2.2.2.2.2.2.1
theorem EncodedLength.movDpImm (ii : Byte) (dd : Byte) : EncodedLength.Statement (.movDpImm ii dd) :=
  fun _ => encodedLength_8x.2.2.2.2.2.2.2.2.2.2.2.2
theorem EncodedLength.bcc (rr : Byte) : EncodedLength.Statement (.bcc rr) :=
  fun _ => encodedLength_9x.1
theorem EncodedLength.adcADpX (dd : Byte) : EncodedLength.Statement (.adcADpX dd) :=
  fun _ => encodedLength_9x.2.1
theorem EncodedLength.adcAAbsX (addr : Word) : EncodedLength.Statement (.adcAAbsX addr) :=
  fun _ => encodedLength_9x.2.2.1
theorem EncodedLength.adcAAbsY (addr : Word) : EncodedLength.Statement (.adcAAbsY addr) :=
  fun _ => encodedLength_9x.2.2.2.1
theorem EncodedLength.adcAIndY (dd : Byte) : EncodedLength.Statement (.adcAIndY dd) :=
  fun _ => encodedLength_9x.2.2.2.2.1
theorem EncodedLength.adcDpImm (ii : Byte) (dd : Byte) : EncodedLength.Statement (.adcDpImm ii dd) :=
  fun _ => encodedLength_9x.2.2.2.2.2.1
theorem EncodedLength.adcXY : EncodedLength.Statement .adcXY :=
  fun _ => encodedLength_9x.2.2.2.2.2.2.1
theorem EncodedLength.subw (dd : Byte) : EncodedLength.Statement (.subw dd) :=
  fun _ => encodedLength_9x.2.2.2.2.2.2.2.1
theorem EncodedLength.decDpX (dd : Byte) : EncodedLength.Statement (.decDpX dd) :=
  fun _ => encodedLength_9x.2.2.2.2.2.2.2.2.1
theorem EncodedLength.decA : EncodedLength.Statement .decA :=
  fun _ => encodedLength_9x.2.2.2.2.2.2.2.2.2.1
theorem EncodedLength.movXSp : EncodedLength.Statement .movXSp :=
  fun _ => encodedLength_9x.2.2.2.2.2.2.2.2.2.2.1
theorem EncodedLength.div : EncodedLength.Statement .div :=
  fun _ => encodedLength_9x.2.2.2.2.2.2.2.2.2.2.2.1
theorem EncodedLength.xcn : EncodedLength.Statement .xcn :=
  fun _ => encodedLength_9x.2.2.2.2.2.2.2.2.2.2.2.2
theorem EncodedLength.ei : EncodedLength.Statement .ei :=
  fun _ => encodedLength_Ax.1
theorem EncodedLength.sbcADp (dd : Byte) : EncodedLength.Statement (.sbcADp dd) :=
  fun _ => encodedLength_Ax.2.1
theorem EncodedLength.sbcAAbs (addr : Word) : EncodedLength.Statement (.sbcAAbs addr) :=
  fun _ => encodedLength_Ax.2.2.1
theorem EncodedLength.sbcAXInd : EncodedLength.Statement .sbcAXInd :=
  fun _ => encodedLength_Ax.2.2.2.1
theorem EncodedLength.sbcAIndX (dd : Byte) : EncodedLength.Statement (.sbcAIndX dd) :=
  fun _ => encodedLength_Ax.2.2.2.2.1
theorem EncodedLength.sbcAImm (ii : Byte) : EncodedLength.Statement (.sbcAImm ii) :=
  fun _ => encodedLength_Ax.2.2.2.2.2.1
theorem EncodedLength.sbcDpDp (ss : Byte) (dd : Byte) : EncodedLength.Statement (.sbcDpDp ss dd) :=
  fun _ => encodedLength_Ax.2.2.2.2.2.2.1
theorem EncodedLength.mov1CMem (bit : Nat) (addr : BitVec 13) : EncodedLength.Statement (.mov1CMem bit addr) :=
  fun _ => encodedLength_Ax.2.2.2.2.2.2.2.1
theorem EncodedLength.incDp (dd : Byte) : EncodedLength.Statement (.incDp dd) :=
  fun _ => encodedLength_Ax.2.2.2.2.2.2.2.2.1
theorem EncodedLength.incAbs (addr : Word) : EncodedLength.Statement (.incAbs addr) :=
  fun _ => encodedLength_Ax.2.2.2.2.2.2.2.2.2.1
theorem EncodedLength.cmpYImm (ii : Byte) : EncodedLength.Statement (.cmpYImm ii) :=
  fun _ => encodedLength_Ax.2.2.2.2.2.2.2.2.2.2.1
theorem EncodedLength.popA : EncodedLength.Statement .popA :=
  fun _ => encodedLength_Ax.2.2.2.2.2.2.2.2.2.2.2.1
theorem EncodedLength.movXIncA : EncodedLength.Statement .movXIncA :=
  fun _ => encodedLength_Ax.2.2.2.2.2.2.2.2.2.2.2.2
theorem EncodedLength.bcs (rr : Byte) : EncodedLength.Statement (.bcs rr) :=
  fun _ => encodedLength_Bx.1
theorem EncodedLength.sbcADpX (dd : Byte) : EncodedLength.Statement (.sbcADpX dd) :=
  fun _ => encodedLength_Bx.2.1
theorem EncodedLength.sbcAAbsX (addr : Word) : EncodedLength.Statement (.sbcAAbsX addr) :=
  fun _ => encodedLength_Bx.2.2.1
theorem EncodedLength.sbcAAbsY (addr : Word) : EncodedLength.Statement (.sbcAAbsY addr) :=
  fun _ => encodedLength_Bx.2.2.2.1
theorem EncodedLength.sbcAIndY (dd : Byte) : EncodedLength.Statement (.sbcAIndY dd) :=
  fun _ => encodedLength_Bx.2.2.2.2.1
theorem EncodedLength.sbcDpImm (ii : Byte) (dd : Byte) : EncodedLength.Statement (.sbcDpImm ii dd) :=
  fun _ => encodedLength_Bx.2.2.2.2.2.1
theorem EncodedLength.sbcXY : EncodedLength.Statement .sbcXY :=
  fun _ => encodedLength_Bx.2.2.2.2.2.2.1
theorem EncodedLength.movwYaDp (dd : Byte) : EncodedLength.Statement (.movwYaDp dd) :=
  fun _ => encodedLength_Bx.2.2.2.2.2.2.2.1
theorem EncodedLength.incDpX (dd : Byte) : EncodedLength.Statement (.incDpX dd) :=
  fun _ => encodedLength_Bx.2.2.2.2.2.2.2.2.1
theorem EncodedLength.incA : EncodedLength.Statement .incA :=
  fun _ => encodedLength_Bx.2.2.2.2.2.2.2.2.2.1
theorem EncodedLength.movSpX : EncodedLength.Statement .movSpX :=
  fun _ => encodedLength_Bx.2.2.2.2.2.2.2.2.2.2.1
theorem EncodedLength.das : EncodedLength.Statement .das :=
  fun _ => encodedLength_Bx.2.2.2.2.2.2.2.2.2.2.2.1
theorem EncodedLength.movAXInc : EncodedLength.Statement .movAXInc :=
  fun _ => encodedLength_Bx.2.2.2.2.2.2.2.2.2.2.2.2
theorem EncodedLength.di : EncodedLength.Statement .di :=
  fun _ => encodedLength_Cx.1
theorem EncodedLength.movDpA (dd : Byte) : EncodedLength.Statement (.movDpA dd) :=
  fun _ => encodedLength_Cx.2.1
theorem EncodedLength.movAbsA (addr : Word) : EncodedLength.Statement (.movAbsA addr) :=
  fun _ => encodedLength_Cx.2.2.1
theorem EncodedLength.movXIndA : EncodedLength.Statement .movXIndA :=
  fun _ => encodedLength_Cx.2.2.2.1
theorem EncodedLength.movIndXA (dd : Byte) : EncodedLength.Statement (.movIndXA dd) :=
  fun _ => encodedLength_Cx.2.2.2.2.1
theorem EncodedLength.cmpXImm (ii : Byte) : EncodedLength.Statement (.cmpXImm ii) :=
  fun _ => encodedLength_Cx.2.2.2.2.2.1
theorem EncodedLength.movAbsX (addr : Word) : EncodedLength.Statement (.movAbsX addr) :=
  fun _ => encodedLength_Cx.2.2.2.2.2.2.1
theorem EncodedLength.mov1MemC (bit : Nat) (addr : BitVec 13) : EncodedLength.Statement (.mov1MemC bit addr) :=
  fun _ => encodedLength_Cx.2.2.2.2.2.2.2.1
theorem EncodedLength.movDpY (dd : Byte) : EncodedLength.Statement (.movDpY dd) :=
  fun _ => encodedLength_Cx.2.2.2.2.2.2.2.2.1
theorem EncodedLength.movAbsY (addr : Word) : EncodedLength.Statement (.movAbsY addr) :=
  fun _ => encodedLength_Cx.2.2.2.2.2.2.2.2.2.1
theorem EncodedLength.movXImm (ii : Byte) : EncodedLength.Statement (.movXImm ii) :=
  fun _ => encodedLength_Cx.2.2.2.2.2.2.2.2.2.2.1
theorem EncodedLength.popX : EncodedLength.Statement .popX :=
  fun _ => encodedLength_Cx.2.2.2.2.2.2.2.2.2.2.2.1
theorem EncodedLength.mul : EncodedLength.Statement .mul :=
  fun _ => encodedLength_Cx.2.2.2.2.2.2.2.2.2.2.2.2
theorem EncodedLength.bne (rr : Byte) : EncodedLength.Statement (.bne rr) :=
  fun _ => encodedLength_Dx.1
theorem EncodedLength.movDpXA (dd : Byte) : EncodedLength.Statement (.movDpXA dd) :=
  fun _ => encodedLength_Dx.2.1
theorem EncodedLength.movAbsXA (addr : Word) : EncodedLength.Statement (.movAbsXA addr) :=
  fun _ => encodedLength_Dx.2.2.1
theorem EncodedLength.movAbsYA (addr : Word) : EncodedLength.Statement (.movAbsYA addr) :=
  fun _ => encodedLength_Dx.2.2.2.1
theorem EncodedLength.movIndYA (dd : Byte) : EncodedLength.Statement (.movIndYA dd) :=
  fun _ => encodedLength_Dx.2.2.2.2.1
theorem EncodedLength.movDpX (dd : Byte) : EncodedLength.Statement (.movDpX dd) :=
  fun _ => encodedLength_Dx.2.2.2.2.2.1
theorem EncodedLength.movDpYX (dd : Byte) : EncodedLength.Statement (.movDpYX dd) :=
  fun _ => encodedLength_Dx.2.2.2.2.2.2.1
theorem EncodedLength.movwDpYa (dd : Byte) : EncodedLength.Statement (.movwDpYa dd) :=
  fun _ => encodedLength_Dx.2.2.2.2.2.2.2.1
theorem EncodedLength.movDpXY (dd : Byte) : EncodedLength.Statement (.movDpXY dd) :=
  fun _ => encodedLength_Dx.2.2.2.2.2.2.2.2.1
theorem EncodedLength.decY : EncodedLength.Statement .decY :=
  fun _ => encodedLength_Dx.2.2.2.2.2.2.2.2.2.1
theorem EncodedLength.movAY : EncodedLength.Statement .movAY :=
  fun _ => encodedLength_Dx.2.2.2.2.2.2.2.2.2.2.1
theorem EncodedLength.cbneDpX (dd : Byte) (rr : Byte) : EncodedLength.Statement (.cbneDpX dd rr) :=
  fun _ => encodedLength_Dx.2.2.2.2.2.2.2.2.2.2.2.1
theorem EncodedLength.daa : EncodedLength.Statement .daa :=
  fun _ => encodedLength_Dx.2.2.2.2.2.2.2.2.2.2.2.2
theorem EncodedLength.clrv : EncodedLength.Statement .clrv :=
  fun _ => encodedLength_Ex.1
theorem EncodedLength.movADp (dd : Byte) : EncodedLength.Statement (.movADp dd) :=
  fun _ => encodedLength_Ex.2.1
theorem EncodedLength.movAAbs (addr : Word) : EncodedLength.Statement (.movAAbs addr) :=
  fun _ => encodedLength_Ex.2.2.1
theorem EncodedLength.movAXInd : EncodedLength.Statement .movAXInd :=
  fun _ => encodedLength_Ex.2.2.2.1
theorem EncodedLength.movAIndX (dd : Byte) : EncodedLength.Statement (.movAIndX dd) :=
  fun _ => encodedLength_Ex.2.2.2.2.1
theorem EncodedLength.movAImm (ii : Byte) : EncodedLength.Statement (.movAImm ii) :=
  fun _ => encodedLength_Ex.2.2.2.2.2.1
theorem EncodedLength.movXAbs (addr : Word) : EncodedLength.Statement (.movXAbs addr) :=
  fun _ => encodedLength_Ex.2.2.2.2.2.2.1
theorem EncodedLength.not1 (bit : Nat) (addr : BitVec 13) : EncodedLength.Statement (.not1 bit addr) :=
  fun _ => encodedLength_Ex.2.2.2.2.2.2.2.1
theorem EncodedLength.movYDp (dd : Byte) : EncodedLength.Statement (.movYDp dd) :=
  fun _ => encodedLength_Ex.2.2.2.2.2.2.2.2.1
theorem EncodedLength.movYAbs (addr : Word) : EncodedLength.Statement (.movYAbs addr) :=
  fun _ => encodedLength_Ex.2.2.2.2.2.2.2.2.2.1
theorem EncodedLength.notc : EncodedLength.Statement .notc :=
  fun _ => encodedLength_Ex.2.2.2.2.2.2.2.2.2.2.1
theorem EncodedLength.popY : EncodedLength.Statement .popY :=
  fun _ => encodedLength_Ex.2.2.2.2.2.2.2.2.2.2.2.1
theorem EncodedLength.sleep : EncodedLength.Statement .sleep :=
  fun _ => encodedLength_Ex.2.2.2.2.2.2.2.2.2.2.2.2
theorem EncodedLength.beq (rr : Byte) : EncodedLength.Statement (.beq rr) :=
  fun _ => encodedLength_Fx.1
theorem EncodedLength.movADpX (dd : Byte) : EncodedLength.Statement (.movADpX dd) :=
  fun _ => encodedLength_Fx.2.1
theorem EncodedLength.movAAbsX (addr : Word) : EncodedLength.Statement (.movAAbsX addr) :=
  fun _ => encodedLength_Fx.2.2.1
theorem EncodedLength.movAAbsY (addr : Word) : EncodedLength.Statement (.movAAbsY addr) :=
  fun _ => encodedLength_Fx.2.2.2.1
theorem EncodedLength.movAIndY (dd : Byte) : EncodedLength.Statement (.movAIndY dd) :=
  fun _ => encodedLength_Fx.2.2.2.2.1
theorem EncodedLength.movXDp (dd : Byte) : EncodedLength.Statement (.movXDp dd) :=
  fun _ => encodedLength_Fx.2.2.2.2.2.1
theorem EncodedLength.movXDpY (dd : Byte) : EncodedLength.Statement (.movXDpY dd) :=
  fun _ => encodedLength_Fx.2.2.2.2.2.2.1
theorem EncodedLength.movDpDp (ss : Byte) (dd : Byte) : EncodedLength.Statement (.movDpDp ss dd) :=
  fun _ => encodedLength_Fx.2.2.2.2.2.2.2.1
theorem EncodedLength.movYDpX (dd : Byte) : EncodedLength.Statement (.movYDpX dd) :=
  fun _ => encodedLength_Fx.2.2.2.2.2.2.2.2.1
theorem EncodedLength.incY : EncodedLength.Statement .incY :=
  fun _ => encodedLength_Fx.2.2.2.2.2.2.2.2.2.1
theorem EncodedLength.movYA : EncodedLength.Statement .movYA :=
  fun _ => encodedLength_Fx.2.2.2.2.2.2.2.2.2.2.1
theorem EncodedLength.dbnzY (rr : Byte) : EncodedLength.Statement (.dbnzY rr) :=
  fun _ => encodedLength_Fx.2.2.2.2.2.2.2.2.2.2.2.1
theorem EncodedLength.stop : EncodedLength.Statement .stop :=
  fun _ => encodedLength_Fx.2.2.2.2.2.2.2.2.2.2.2.2

end Sys2Proof.Laws
end

