-- ==== Sys2Proof/Laws/Shared.lean ====
section
/-! SUPPORT. What the remaining shared operations can do, each as its fields: word writes, bit writes, DBNZ, DIV, calls,
the software trap and the return from it. -/

namespace Sys2Proof.Machine

/-- What reads after WriteWord (R38). -/
theorem State.peek_writeWord (s : State) (addr : Nat) (w : Word) (k : Nat) :
    (s.writeWord addr w).peek k =
      if k = s.highByteAddr addr ∧ s.highByteAddr addr ≤ 0xFFFF then highByte w
      else if k = addr ∧ addr ≤ 0xFFFF then lowByte w else s.peek k := by
  simp only [State.writeWord, State.peek_memWrite]

/-- A shift, rotate, INC or DEC of a register changes that register and PSW. -/
theorem State.rmwReg_eq (s : State) (op : Rmw) (r : Reg) :
    s.rmwReg op r = { s with
      a := if r = .a then s.rmwResult op s.a else s.a
      x := if r = .x then s.rmwResult op s.x else s.x
      y := if r = .y then s.rmwResult op s.y else s.y
      psw := (s.rmwFlags op (s.reg r)).psw } := by
  cases r <;> apply State.ext <;> simp [State.rmwReg, State.reg]

/-- INCW or DECW changes the word in memory, PSW, PC and `last_addr`. -/
theorem State.rmwWord_eq (s : State) (dd : Byte) (w : Word) :
    s.rmwWord dd w = { s with
      psw := (s.setNZ16 w).psw, pc := s.pc + 1, lastAddr := s.highByteAddr (s.dp dd).toNat,
      mem := (s.writeWord (s.dp dd).toNat w).mem } := by
  apply State.ext <;> simp [State.rmwWord, State.dpWordRead]
  · exact State.setNZ16_psw_congr (by simp) _
  · rfl
  · rfl

/-- DIV changes A, Y and PSW. -/
theorem State.divYA_eq (s : State) :
    s.divYA = { s with
      a := (divResult s.params.divZero s.ya s.x).1, y := (divResult s.params.divZero s.ya s.x).2,
      psw := (((s.setFlag .h (divHalfCarry s.y s.x)).setFlag .v (s.ya.getLsbD 8)).setNZ8
        (divResult s.params.divZero s.ya s.x).1).psw } := by
  apply State.ext <;> simp [State.divYA]
  exact State.setNZ8_psw_congr (by simp) _

/-- SET1 and CLR1 change one byte of memory, PC and `last_addr`. -/
theorem State.dpBitWrite_eq (s : State) (bit : Nat) (dd : Byte) (v : Bool) :
    s.dpBitWrite bit dd v = { s with
      pc := s.pc + 1, lastAddr := (s.dp dd).toNat,
      mem := (s.memWrite (s.dp dd).toNat (withBit (s.modeValue (.dp dd)) bit v)).mem } := by
  apply State.ext <;> simp [State.dpBitWrite, State.enter]

/-- An instruction that writes C from a mem.bit operand changes PSW, PC and `last_addr`. -/
theorem State.memBitToC_eq (s : State) (addr : BitVec 13) (v : Bool) :
    s.memBitToC addr v = { s with
      psw := (s.setFlag .c v).psw, pc := s.pc + 1 + 1, lastAddr := (memBitEa addr).toNat } := by
  apply State.ext <;> simp [State.memBitToC, State.memBitRead]

/-- An instruction that writes a mem.bit operand changes one byte of memory, PC and `last_addr`. -/
theorem State.memBitWrite_eq (s : State) (bit : Nat) (addr : BitVec 13) (v : Bool) :
    s.memBitWrite bit addr v = { s with
      pc := s.pc + 1 + 1, lastAddr := (memBitEa addr).toNat,
      mem := (s.memWrite (memBitEa addr).toNat (withBit (s.memBitByte addr) bit v)).mem } := by
  apply State.ext <;> simp [State.memBitWrite, State.memBitRead]

/-- TSET1 and TCLR1 change one byte of memory, PSW, PC and `last_addr`. -/
theorem State.testWrite_eq (s : State) (addr : Word) (w : Byte) :
    s.testWrite addr w = { s with
      psw := (s.setNZ8 (s.a - s.peek addr.toNat)).psw, pc := s.pc + 1 + 1, lastAddr := addr.toNat,
      mem := (s.memWrite addr.toNat w).mem } := by
  apply State.ext <;> simp [State.testWrite, State.modeValue, State.ea, State.enter]
  exact State.setNZ8_psw_congr (by simp) _

/-- A call changes PC, SP, memory and `last_addr`. -/
theorem State.callTo_eq (s : State) (target : Word) :
    s.callTo target = { s with
      pc := target, sp := s.sp - 1 - 1, lastAddr := s.pushSlot 2, mem := s.pushPC.mem } := by
  apply State.ext <;> simp [State.callTo, State.pushPC_lastAddr]

/-- The memory the software trap leaves, in terms of its three pushes (R259). -/
theorem State.peek_takeTrap (s : State) (k : Nat) :
    s.takeTrap.peek k = if k = s.pushSlot 3 then s.psw else s.pushPC.peek k := by
  have h : s.pushPC.pushSlot 1 = s.pushSlot 3 := by
    cases hd : s.params.stackDiscipline <;> simp [State.pushPC, hd, State.push8_pushSlot]
  simp [State.takeTrap, State.peek_push8, h]

/-- The return from the trap changes PSW, PC, SP and `last_addr` (R261). -/
theorem State.returnFromTrap_eq (s : State) :
    s.returnFromTrap = { s with
      psw := s.peek (stackAddr (s.sp + 1))
      pc := wordOf (s.peek (stackAddr (s.sp + 1 + 1 + 1))) (s.peek (stackAddr (s.sp + 1 + 1)))
      sp := s.sp + 1 + 1 + 1, lastAddr := stackAddr (s.sp + 1 + 1 + 1) } := by
  rfl

end Sys2Proof.Machine
end

