-- ==== Sys2Proof/Tests/Slice0.lean ====
section
/-! SUPPORT. The model's own tests: words written out from spec/30_encoding.md decode to their instructions, ill-formed
terms are refused, single steps give the after-state that spec/95_test_vectors.md lists (the name holds the vector's number), and
for every statement with hypotheses a concrete instance that meets them. -/

namespace Sys2Proof.Tests

-- one theorem after another, so that few threads run at once
set_option Elab.async false

open Sys2Proof.Machine

/-! ## Decoding: for every constructor a word, bit 0 the lowest bit of the first byte -/

theorem test_decode_0x :
    decodeTableWord 8 0x00 = some .nop ∧
    decodeTableWord 8 0xD1 = some (.tcall 13) ∧
    decodeTableWord 16 0x34E2 = some (.set1 7 0x34) ∧
    decodeTableWord 24 0x7234E3 = some (.bbs 7 0x34 0x72) ∧
    decodeTableWord 16 0x3404 = some (.orADp 0x34) ∧
    decodeTableWord 24 0x723405 = some (.orAAbs 0x7234) ∧
    decodeTableWord 8 0x06 = some .orAXInd ∧
    decodeTableWord 16 0x3407 = some (.orAIndX 0x34) ∧
    decodeTableWord 16 0x3408 = some (.orAImm 0x34) ∧
    decodeTableWord 24 0x723409 = some (.orDpDp 0x34 0x72) ∧
    decodeTableWord 24 0x72340A = some (.or1CMem 3 0x1234) ∧
    decodeTableWord 16 0x340B = some (.aslDp 0x34) ∧
    decodeTableWord 24 0x72340C = some (.aslAbs 0x7234) ∧
    decodeTableWord 8 0x0D = some .pushPsw ∧
    decodeTableWord 24 0x72340E = some (.tset1 0x7234) ∧
    decodeTableWord 8 0x0F = some .brk ∧
    decodeTableWord 8 0x01 = some (.tcall 0) ∧
    decodeTableWord 16 0xAB02 = some (.set1 0 0xAB) ∧
    decodeTableWord 24 0xFFAB03 = some (.bbs 0 0xAB 0xFF) ∧
    decodeTableWord 24 0xFFAB0A = some (.or1CMem 7 0x1FAB) := by
  decide +kernel

theorem test_decode_1x :
    decodeTableWord 16 0x3410 = some (.bpl 0x34) ∧
    decodeTableWord 16 0x34F2 = some (.clr1 7 0x34) ∧
    decodeTableWord 24 0x7234F3 = some (.bbc 7 0x34 0x72) ∧
    decodeTableWord 16 0x3414 = some (.orADpX 0x34) ∧
    decodeTableWord 24 0x723415 = some (.orAAbsX 0x7234) ∧
    decodeTableWord 24 0x723416 = some (.orAAbsY 0x7234) ∧
    decodeTableWord 16 0x3417 = some (.orAIndY 0x34) ∧
    decodeTableWord 24 0x723418 = some (.orDpImm 0x34 0x72) ∧
    decodeTableWord 8 0x19 = some .orXY ∧
    decodeTableWord 16 0x341A = some (.decw 0x34) ∧
    decodeTableWord 16 0x341B = some (.aslDpX 0x34) ∧
    decodeTableWord 8 0x1C = some .aslA ∧
    decodeTableWord 8 0x1D = some .decX ∧
    decodeTableWord 24 0x72341E = some (.cmpXAbs 0x7234) ∧
    decodeTableWord 24 0x72341F = some (.jmpAbsXInd 0x7234) := by
  decide +kernel

theorem test_decode_2x :
    decodeTableWord 8 0x20 = some .clrp ∧
    decodeTableWord 16 0x3424 = some (.andADp 0x34) ∧
    decodeTableWord 24 0x723425 = some (.andAAbs 0x7234) ∧
    decodeTableWord 8 0x26 = some .andAXInd ∧
    decodeTableWord 16 0x3427 = some (.andAIndX 0x34) ∧
    decodeTableWord 16 0x3428 = some (.andAImm 0x34) ∧
    decodeTableWord 24 0x723429 = some (.andDpDp 0x34 0x72) ∧
    decodeTableWord 24 0x72342A = some (.or1CNotMem 3 0x1234) ∧
    decodeTableWord 16 0x342B = some (.rolDp 0x34) ∧
    decodeTableWord 24 0x72342C = some (.rolAbs 0x7234) ∧
    decodeTableWord 8 0x2D = some .pushA ∧
    decodeTableWord 24 0x72342E = some (.cbneDp 0x34 0x72) ∧
    decodeTableWord 16 0x342F = some (.bra 0x34) := by
  decide +kernel

theorem test_decode_3x :
    decodeTableWord 16 0x3430 = some (.bmi 0x34) ∧
    decodeTableWord 16 0x3434 = some (.andADpX 0x34) ∧
    decodeTableWord 24 0x723435 = some (.andAAbsX 0x7234) ∧
    decodeTableWord 24 0x723436 = some (.andAAbsY 0x7234) ∧
    decodeTableWord 16 0x3437 = some (.andAIndY 0x34) ∧
    decodeTableWord 24 0x723438 = some (.andDpImm 0x34 0x72) ∧
    decodeTableWord 8 0x39 = some .andXY ∧
    decodeTableWord 16 0x343A = some (.incw 0x34) ∧
    decodeTableWord 16 0x343B = some (.rolDpX 0x34) ∧
    decodeTableWord 8 0x3C = some .rolA ∧
    decodeTableWord 8 0x3D = some .incX ∧
    decodeTableWord 16 0x343E = some (.cmpXDp 0x34) ∧
    decodeTableWord 24 0x72343F = some (.call 0x7234) := by
  decide +kernel

theorem test_decode_4x :
    decodeTableWord 8 0x40 = some .setp ∧
    decodeTableWord 16 0x3444 = some (.eorADp 0x34) ∧
    decodeTableWord 24 0x723445 = some (.eorAAbs 0x7234) ∧
    decodeTableWord 8 0x46 = some .eorAXInd ∧
    decodeTableWord 16 0x3447 = some (.eorAIndX 0x34) ∧
    decodeTableWord 16 0x3448 = some (.eorAImm 0x34) ∧
    decodeTableWord 24 0x723449 = some (.eorDpDp 0x34 0x72) ∧
    decodeTableWord 24 0x72344A = some (.and1CMem 3 0x1234) ∧
    decodeTableWord 16 0x344B = some (.lsrDp 0x34) ∧
    decodeTableWord 24 0x72344C = some (.lsrAbs 0x7234) ∧
    decodeTableWord 8 0x4D = some .pushX ∧
    decodeTableWord 24 0x72344E = some (.tclr1 0x7234) ∧
    decodeTableWord 16 0x344F = some (.pcall 0x34) := by
  decide +kernel

theorem test_decode_5x :
    decodeTableWord 16 0x3450 = some (.bvc 0x34) ∧
    decodeTableWord 16 0x3454 = some (.eorADpX 0x34) ∧
    decodeTableWord 24 0x723455 = some (.eorAAbsX 0x7234) ∧
    decodeTableWord 24 0x723456 = some (.eorAAbsY 0x7234) ∧
    decodeTableWord 16 0x3457 = some (.eorAIndY 0x34) ∧
    decodeTableWord 24 0x723458 = some (.eorDpImm 0x34 0x72) ∧
    decodeTableWord 8 0x59 = some .eorXY ∧
    decodeTableWord 16 0x345A = some (.cmpw 0x34) ∧
    decodeTableWord 16 0x345B = some (.lsrDpX 0x34) ∧
    decodeTableWord 8 0x5C = some .lsrA ∧
    decodeTableWord 8 0x5D = some .movXA ∧
    decodeTableWord 24 0x72345E = some (.cmpYAbs 0x7234) ∧
    decodeTableWord 24 0x72345F = some (.jmpAbs 0x7234) := by
  decide +kernel

theorem test_decode_6x :
    decodeTableWord 8 0x60 = some .clrc ∧
    decodeTableWord 16 0x3464 = some (.cmpADp 0x34) ∧
    decodeTableWord 24 0x723465 = some (.cmpAAbs 0x7234) ∧
    decodeTableWord 8 0x66 = some .cmpAXInd ∧
    decodeTableWord 16 0x3467 = some (.cmpAIndX 0x34) ∧
    decodeTableWord 16 0x3468 = some (.cmpAImm 0x34) ∧
    decodeTableWord 24 0x723469 = some (.cmpDpDp 0x34 0x72) ∧
    decodeTableWord 24 0x72346A = some (.and1CNotMem 3 0x1234) ∧
    decodeTableWord 16 0x346B = some (.rorDp 0x34) ∧
    decodeTableWord 24 0x72346C = some (.rorAbs 0x7234) ∧
    decodeTableWord 8 0x6D = some .pushY ∧
    decodeTableWord 24 0x72346E = some (.dbnzDp 0x34 0x72) ∧
    decodeTableWord 8 0x6F = some .ret := by
  decide +kernel

theorem test_decode_7x :
    decodeTableWord 16 0x3470 = some (.bvs 0x34) ∧
    decodeTableWord 16 0x3474 = some (.cmpADpX 0x34) ∧
    decodeTableWord 24 0x723475 = some (.cmpAAbsX 0x7234) ∧
    decodeTableWord 24 0x723476 = some (.cmpAAbsY 0x7234) ∧
    decodeTableWord 16 0x3477 = some (.cmpAIndY 0x34) ∧
    decodeTableWord 24 0x723478 = some (.cmpDpImm 0x34 0x72) ∧
    decodeTableWord 8 0x79 = some .cmpXY ∧
    decodeTableWord 16 0x347A = some (.addw 0x34) ∧
    decodeTableWord 16 0x347B = some (.rorDpX 0x34) ∧
    decodeTableWord 8 0x7C = some .rorA ∧
    decodeTableWord 8 0x7D = some .movAX ∧
    decodeTableWord 16 0x347E = some (.cmpYDp 0x34) ∧
    decodeTableWord 8 0x7F = some .reti := by
  decide +kernel

theorem test_decode_8x :
    decodeTableWord 8 0x80 = some .setc ∧
    decodeTableWord 16 0x3484 = some (.adcADp 0x34) ∧
    decodeTableWord 24 0x723485 = some (.adcAAbs 0x7234) ∧
    decodeTableWord 8 0x86 = some .adcAXInd ∧
    decodeTableWord 16 0x3487 = some (.adcAIndX 0x34) ∧
    decodeTableWord 16 0x3488 = some (.adcAImm 0x34) ∧
    decodeTableWord 24 0x723489 = some (.adcDpDp 0x34 0x72) ∧
    decodeTableWord 24 0x72348A = some (.eor1CMem 3 0x1234) ∧
    decodeTableWord 16 0x348B = some (.decDp 0x34) ∧
    decodeTableWord 24 0x72348C = some (.decAbs 0x7234) ∧
    decodeTableWord 16 0x348D = some (.movYImm 0x34) ∧
    decodeTableWord 8 0x8E = some .popPsw ∧
    decodeTableWord 24 0x72348F = some (.movDpImm 0x34 0x72) := by
  decide +kernel

theorem test_decode_9x :
    decodeTableWord 16 0x3490 = some (.bcc 0x34) ∧
    decodeTableWord 16 0x3494 = some (.adcADpX 0x34) ∧
    decodeTableWord 24 0x723495 = some (.adcAAbsX 0x7234) ∧
    decodeTableWord 24 0x723496 = some (.adcAAbsY 0x7234) ∧
    decodeTableWord 16 0x3497 = some (.adcAIndY 0x34) ∧
    decodeTableWord 24 0x723498 = some (.adcDpImm 0x34 0x72) ∧
    decodeTableWord 8 0x99 = some .adcXY ∧
    decodeTableWord 16 0x349A = some (.subw 0x34) ∧
    decodeTableWord 16 0x349B = some (.decDpX 0x34) ∧
    decodeTableWord 8 0x9C = some .decA ∧
    decodeTableWord 8 0x9D = some .movXSp ∧
    decodeTableWord 8 0x9E = some .div ∧
    decodeTableWord 8 0x9F = some .xcn := by
  decide +kernel

theorem test_decode_Ax :
    decodeTableWord 8 0xA0 = some .ei ∧
    decodeTableWord 16 0x34A4 = some (.sbcADp 0x34) ∧
    decodeTableWord 24 0x7234A5 = some (.sbcAAbs 0x7234) ∧
    decodeTableWord 8 0xA6 = some .sbcAXInd ∧
    decodeTableWord 16 0x34A7 = some (.sbcAIndX 0x34) ∧
    decodeTableWord 16 0x34A8 = some (.sbcAImm 0x34) ∧
    decodeTableWord 24 0x7234A9 = some (.sbcDpDp 0x34 0x72) ∧
    decodeTableWord 24 0x7234AA = some (.mov1CMem 3 0x1234) ∧
    decodeTableWord 16 0x34AB = some (.incDp 0x34) ∧
    decodeTableWord 24 0x7234AC = some (.incAbs 0x7234) ∧
    decodeTableWord 16 0x34AD = some (.cmpYImm 0x34) ∧
    decodeTableWord 8 0xAE = some .popA ∧
    decodeTableWord 8 0xAF = some .movXIncA := by
  decide +kernel

theorem test_decode_Bx :
    decodeTableWord 16 0x34B0 = some (.bcs 0x34) ∧
    decodeTableWord 16 0x34B4 = some (.sbcADpX 0x34) ∧
    decodeTableWord 24 0x7234B5 = some (.sbcAAbsX 0x7234) ∧
    decodeTableWord 24 0x7234B6 = some (.sbcAAbsY 0x7234) ∧
    decodeTableWord 16 0x34B7 = some (.sbcAIndY 0x34) ∧
    decodeTableWord 24 0x7234B8 = some (.sbcDpImm 0x34 0x72) ∧
    decodeTableWord 8 0xB9 = some .sbcXY ∧
    decodeTableWord 16 0x34BA = some (.movwYaDp 0x34) ∧
    decodeTableWord 16 0x34BB = some (.incDpX 0x34) ∧
    decodeTableWord 8 0xBC = some .incA ∧
    decodeTableWord 8 0xBD = some .movSpX ∧
    decodeTableWord 8 0xBE = some .das ∧
    decodeTableWord 8 0xBF = some .movAXInc := by
  decide +kernel

theorem test_decode_Cx :
    decodeTableWord 8 0xC0 = some .di ∧
    decodeTableWord 16 0x34C4 = some (.movDpA 0x34) ∧
    decodeTableWord 24 0x7234C5 = some (.movAbsA 0x7234) ∧
    decodeTableWord 8 0xC6 = some .movXIndA ∧
    decodeTableWord 16 0x34C7 = some (.movIndXA 0x34) ∧
    decodeTableWord 16 0x34C8 = some (.cmpXImm 0x34) ∧
    decodeTableWord 24 0x7234C9 = some (.movAbsX 0x7234) ∧
    decodeTableWord 24 0x7234CA = some (.mov1MemC 3 0x1234) ∧
    decodeTableWord 16 0x34CB = some (.movDpY 0x34) ∧
    decodeTableWord 24 0x7234CC = some (.movAbsY 0x7234) ∧
    decodeTableWord 16 0x34CD = some (.movXImm 0x34) ∧
    decodeTableWord 8 0xCE = some .popX ∧
    decodeTableWord 8 0xCF = some .mul := by
  decide +kernel

theorem test_decode_Dx :
    decodeTableWord 16 0x34D0 = some (.bne 0x34) ∧
    decodeTableWord 16 0x34D4 = some (.movDpXA 0x34) ∧
    decodeTableWord 24 0x7234D5 = some (.movAbsXA 0x7234) ∧
    decodeTableWord 24 0x7234D6 = some (.movAbsYA 0x7234) ∧
    decodeTableWord 16 0x34D7 = some (.movIndYA 0x34) ∧
    decodeTableWord 16 0x34D8 = some (.movDpX 0x34) ∧
    decodeTableWord 16 0x34D9 = some (.movDpYX 0x34) ∧
    decodeTableWord 16 0x34DA = some (.movwDpYa 0x34) ∧
    decodeTableWord 16 0x34DB = some (.movDpXY 0x34) ∧
    decodeTableWord 8 0xDC = some .decY ∧
    decodeTableWord 8 0xDD = some .movAY ∧
    decodeTableWord 24 0x7234DE = some (.cbneDpX 0x34 0x72) ∧
    decodeTableWord 8 0xDF = some .daa := by
  decide +kernel

theorem test_decode_Ex :
    decodeTableWord 8 0xE0 = some .clrv ∧
    decodeTableWord 16 0x34E4 = some (.movADp 0x34) ∧
    decodeTableWord 24 0x7234E5 = some (.movAAbs 0x7234) ∧
    decodeTableWord 8 0xE6 = some .movAXInd ∧
    decodeTableWord 16 0x34E7 = some (.movAIndX 0x34) ∧
    decodeTableWord 16 0x34E8 = some (.movAImm 0x34) ∧
    decodeTableWord 24 0x7234E9 = some (.movXAbs 0x7234) ∧
    decodeTableWord 24 0x7234EA = some (.not1 3 0x1234) ∧
    decodeTableWord 16 0x34EB = some (.movYDp 0x34) ∧
    decodeTableWord 24 0x7234EC = some (.movYAbs 0x7234) ∧
    decodeTableWord 8 0xED = some .notc ∧
    decodeTableWord 8 0xEE = some .popY ∧
    decodeTableWord 8 0xEF = some .sleep := by
  decide +kernel

theorem test_decode_Fx :
    decodeTableWord 16 0x34F0 = some (.beq 0x34) ∧
    decodeTableWord 16 0x34F4 = some (.movADpX 0x34) ∧
    decodeTableWord 24 0x7234F5 = some (.movAAbsX 0x7234) ∧
    decodeTableWord 24 0x7234F6 = some (.movAAbsY 0x7234) ∧
    decodeTableWord 16 0x34F7 = some (.movAIndY 0x34) ∧
    decodeTableWord 16 0x34F8 = some (.movXDp 0x34) ∧
    decodeTableWord 16 0x34F9 = some (.movXDpY 0x34) ∧
    decodeTableWord 24 0x7234FA = some (.movDpDp 0x34 0x72) ∧
    decodeTableWord 16 0x34FB = some (.movYDpX 0x34) ∧
    decodeTableWord 8 0xFC = some .incY ∧
    decodeTableWord 8 0xFD = some .movYA ∧
    decodeTableWord 16 0x34FE = some (.dbnzY 0x34) ∧
    decodeTableWord 8 0xFF = some .stop := by
  decide +kernel

/-- Every opcode byte is selected by exactly one row (R80: 256 values, no two rows overlap). -/
theorem test_rows_cover_and_are_disjoint :
    ∀ op : Byte, (opcodeRows.filter (fun r => r.selects op)).length = 1 := by
  decide +kernel

/-- Bytes that end before the operands do are refused by name; so is no byte at all. -/
theorem test_decode_truncated :
    (match decode [0x3F, 0x34] with | .error e => some e | .ok _ => none) = some (.truncated 0x3F) ∧
    (match decode [] with | .error e => some e | .ok _ => none) = some .noBytes := by
  decide +kernel

/-! ## Well-formedness: one ill-formed term for each check -/

theorem test_bit_number_8_is_refused :
    wellFormed (.set1 8 0) = false ∧ wellFormed (.set1 7 0) = true ∧
    wellFormed (.bbs 8 0 0) = false ∧ wellFormed (.bbs 7 0 0) = true ∧
    wellFormed (.or1CMem 8 0) = false ∧ wellFormed (.or1CMem 7 0) = true ∧
    wellFormed (.clr1 8 0) = false ∧ wellFormed (.clr1 7 0) = true ∧
    wellFormed (.bbc 8 0 0) = false ∧ wellFormed (.bbc 7 0 0) = true ∧
    wellFormed (.or1CNotMem 8 0) = false ∧ wellFormed (.or1CNotMem 7 0) = true ∧
    wellFormed (.and1CMem 8 0) = false ∧ wellFormed (.and1CMem 7 0) = true ∧
    wellFormed (.and1CNotMem 8 0) = false ∧ wellFormed (.and1CNotMem 7 0) = true ∧
    wellFormed (.eor1CMem 8 0) = false ∧ wellFormed (.eor1CMem 7 0) = true ∧
    wellFormed (.mov1CMem 8 0) = false ∧ wellFormed (.mov1CMem 7 0) = true ∧
    wellFormed (.mov1MemC 8 0) = false ∧ wellFormed (.mov1MemC 7 0) = true ∧
    wellFormed (.not1 8 0) = false ∧ wellFormed (.not1 7 0) = true := by
  decide

theorem test_tcall_index_16_is_refused : wellFormed (.tcall 16) = false ∧ wellFormed (.tcall 15) = true := by
  decide

/-! ## One step, from the vectors of spec/95_test_vectors.md -/

/-- A state with the given registers, the instruction bytes at PC, and the given bytes of memory. -/
def start (p : Params) (r : Snapshot) (bytes : List Byte) (cells : List Host.Cell) : State :=
  cells.foldl (fun s c => s.place c.1 c.2)
    (({ State.reset with params := p }.loadRegisters r).writeBytes r.pc.toNat bytes)

/-- The state of a step or an instruction that completes. -/
def nextOf (o : Host.Outcome State Fault Refusal) : Option State :=
  match o with
  | .next t => some t
  | .fault _ => none
  | .refused _ => none

/-- One step from the first state ends with the given registers and bytes of memory. -/
def steps (p : Params) (before : Snapshot) (bytes : List Byte) (cells : List Host.Cell) (after : Snapshot)
    (cells' : List Host.Cell) : Bool :=
  match nextOf (step (start p before bytes cells)) with
  | some t => t.a == after.a && t.x == after.x && t.y == after.y && t.sp == after.sp && t.psw == after.psw &&
      t.pc == after.pc && cells'.all (fun c => t.peek c.1 == c.2)
  | none => false

theorem test_V1_MOV : steps {} ⟨0x0000, 0x00, 0x00, 0x00, 0x00, 0x00⟩ [0xE8, 0xF1] []
    ⟨0x0002, 0xF1, 0x00, 0x00, 0x80, 0x00⟩ [] = true := by decide +kernel
theorem test_V2_DBNZ : steps {} ⟨0x0200, 0x00, 0x00, 0x03, 0x00, 0xEF⟩ [0xFE, 0xF1] []
    ⟨0x01F3, 0x00, 0x00, 0x02, 0x00, 0xEF⟩ [] = true := by decide +kernel
theorem test_V6_ADC : steps {} ⟨0x0200, 0x7F, 0x00, 0x00, 0x00, 0xEF⟩ [0x88, 0x01] []
    ⟨0x0202, 0x80, 0x00, 0x00, 0xC8, 0xEF⟩ [] = true := by decide +kernel
theorem test_V7_ADC : steps { overflow8 := .signedOperands } ⟨0x0200, 0x7F, 0x00, 0x00, 0x00, 0xEF⟩ [0x88, 0x01] []
    ⟨0x0202, 0x80, 0x00, 0x00, 0xC8, 0xEF⟩ [] = true := by decide +kernel
theorem test_V9_CMP : steps {} ⟨0x0200, 0x10, 0x11, 0x12, 0x00, 0xEF⟩ [0x68, 0x20] []
    ⟨0x0202, 0x10, 0x11, 0x12, 0x80, 0xEF⟩ [] = true := by decide +kernel
theorem test_V16_MOV : steps {} ⟨0x0200, 0x00, 0x02, 0x00, 0x20, 0xEF⟩ [0xF4, 0xFF] []
    ⟨0x0202, 0xFF, 0x02, 0x00, 0xA0, 0xEF⟩ [] = true := by decide +kernel
theorem test_V28_MOV : steps {} ⟨0x0200, 0x00, 0x00, 0x00, 0x00, 0xEF⟩ [0xF7, 0xFF] [(0x00FF, 0x34), (0x0100, 0x12), (0x1234, 0x61)]
    ⟨0x0202, 0x61, 0x00, 0x00, 0x00, 0xEF⟩ [] = true := by decide +kernel
theorem test_V30_JMP : steps {} ⟨0xFFFD, 0x00, 0x00, 0x00, 0x00, 0xEF⟩ [0x5F, 0xFF, 0xFF] []
    ⟨0xFFFF, 0x00, 0x00, 0x00, 0x00, 0xEF⟩ [] = true := by decide +kernel
theorem test_V31_JMP : steps {} ⟨0x0200, 0x00, 0x00, 0x00, 0x00, 0xEF⟩ [0x1F, 0xFF, 0xFF] [(0xFFFF, 0x34)]
    ⟨0x0034, 0x00, 0x00, 0x00, 0x00, 0xEF⟩ [] = true := by decide +kernel
theorem test_V32_MOVW : steps {} ⟨0x0200, 0x34, 0x00, 0x12, 0x00, 0xEF⟩ [0xDA, 0x10] []
    ⟨0x0202, 0x34, 0x00, 0x12, 0x00, 0xEF⟩ [(0x0010, 0x34), (0x0011, 0x12)] = true := by decide +kernel
theorem test_V33_MOVW : steps { writeWordMode := .sameAddress } ⟨0x0200, 0x34, 0x00, 0x12, 0x00, 0xEF⟩ [0xDA, 0x10] []
    ⟨0x0202, 0x34, 0x00, 0x12, 0x00, 0xEF⟩ [(0x0010, 0x12)] = true := by decide +kernel
theorem test_V34_MOVW : steps {} ⟨0x0200, 0x34, 0x00, 0x12, 0x20, 0xEF⟩ [0xDA, 0xFF] []
    ⟨0x0202, 0x34, 0x00, 0x12, 0x20, 0xEF⟩ [(0x01FF, 0x34), (0x0200, 0x12)] = true := by decide +kernel
theorem test_V35_NOP : steps {} ⟨0x0200, 0x00, 0x00, 0x00, 0x00, 0xEF⟩ [0x00] []
    ⟨0x0201, 0x00, 0x00, 0x00, 0x00, 0xEF⟩ [] = true := by decide +kernel
theorem test_V36_SLEEP : steps {} ⟨0x0200, 0x00, 0x00, 0x00, 0x00, 0xEF⟩ [0xEF] []
    ⟨0x0201, 0x00, 0x00, 0x00, 0x00, 0xEF⟩ [] = true := by decide +kernel
theorem test_V37_STOP : steps {} ⟨0x0200, 0x00, 0x00, 0x00, 0x00, 0xEF⟩ [0xFF] []
    ⟨0x0201, 0x00, 0x00, 0x00, 0x00, 0xEF⟩ [] = true := by decide +kernel
theorem test_V38_unrecognized : steps { unrecognized := [0xEF, 0xFF] } ⟨0x0200, 0x00, 0x00, 0x00, 0x00, 0xEF⟩ [0xEF] []
    ⟨0x0201, 0x00, 0x00, 0x00, 0x00, 0xEF⟩ [] = true := by decide +kernel
theorem test_V39_unrecognized : steps { unrecognized := [0x3F] } ⟨0x0200, 0x00, 0x00, 0x00, 0x00, 0xEF⟩ [0x3F, 0x34, 0x12] []
    ⟨0x0201, 0x00, 0x00, 0x00, 0x00, 0xEF⟩ [] = true := by decide +kernel
theorem test_V42_MOV1 : steps {} ⟨0x0200, 0x00, 0x00, 0x00, 0x00, 0xEF⟩ [0xAA, 0x34, 0x72] [(0x1234, 0x08)]
    ⟨0x0203, 0x00, 0x00, 0x00, 0x01, 0xEF⟩ [] = true := by decide +kernel
theorem test_V43_MOV1 : steps {} ⟨0x0200, 0x00, 0x00, 0x00, 0x00, 0xEF⟩ [0xAA, 0xFF, 0xFF] [(0x1FFF, 0x80)]
    ⟨0x0203, 0x00, 0x00, 0x00, 0x01, 0xEF⟩ [] = true := by decide +kernel
theorem test_V44_OR : steps {} ⟨0x0200, 0xF0, 0x00, 0x00, 0x49, 0xEF⟩ [0x08, 0x0F] []
    ⟨0x0202, 0xFF, 0x00, 0x00, 0xC9, 0xEF⟩ [] = true := by decide +kernel
theorem test_V46_AND : steps {} ⟨0x0200, 0xF0, 0x00, 0x00, 0x80, 0xEF⟩ [0x28, 0x0F] []
    ⟨0x0202, 0x00, 0x00, 0x00, 0x02, 0xEF⟩ [] = true := by decide +kernel
theorem test_V47_EOR : steps {} ⟨0x0200, 0x7F, 0x00, 0x00, 0x00, 0xEF⟩ [0x48, 0xFF] []
    ⟨0x0202, 0x80, 0x00, 0x00, 0x80, 0xEF⟩ [] = true := by decide +kernel
theorem test_V55_ADC : steps { overflow8 := .signedOperands } ⟨0x0200, 0xFF, 0x00, 0x00, 0x00, 0xEF⟩ [0x88, 0x01] []
    ⟨0x0202, 0x00, 0x00, 0x00, 0x0B, 0xEF⟩ [] = true := by decide +kernel
theorem test_V64_SBC : steps {} ⟨0x0200, 0x05, 0x00, 0x00, 0x01, 0xEF⟩ [0xA8, 0x03] []
    ⟨0x0202, 0x02, 0x00, 0x00, 0x01, 0xEF⟩ [] = true := by decide +kernel
theorem test_V67_SBC : steps {} ⟨0x0200, 0xFF, 0x00, 0x00, 0x00, 0xEF⟩ [0xA8, 0x00] []
    ⟨0x0202, 0x00, 0x00, 0x00, 0x4A, 0xEF⟩ [] = true := by decide +kernel
theorem test_V69_SBC : steps { overflow8 := .signedOperands } ⟨0x0200, 0x80, 0x00, 0x00, 0x01, 0xEF⟩ [0xA8, 0x01] []
    ⟨0x0202, 0x7F, 0x00, 0x00, 0x49, 0xEF⟩ [] = true := by decide +kernel
theorem test_V78_ASL : steps {} ⟨0x0200, 0x80, 0x00, 0x00, 0x00, 0xEF⟩ [0x1C] []
    ⟨0x0201, 0x00, 0x00, 0x00, 0x03, 0xEF⟩ [] = true := by decide +kernel
theorem test_V80_LSR : steps {} ⟨0x0200, 0x01, 0x00, 0x00, 0x00, 0xEF⟩ [0x5C] []
    ⟨0x0201, 0x00, 0x00, 0x00, 0x03, 0xEF⟩ [] = true := by decide +kernel
theorem test_V82_ROL : steps {} ⟨0x0200, 0x80, 0x00, 0x00, 0x01, 0xEF⟩ [0x3C] []
    ⟨0x0201, 0x01, 0x00, 0x00, 0x01, 0xEF⟩ [] = true := by decide +kernel
theorem test_V84_ROR : steps {} ⟨0x0200, 0x01, 0x00, 0x00, 0x00, 0xEF⟩ [0x7C] []
    ⟨0x0201, 0x00, 0x00, 0x00, 0x03, 0xEF⟩ [] = true := by decide +kernel
theorem test_V90_INC : steps {} ⟨0x0200, 0xFF, 0x00, 0x00, 0x01, 0xEF⟩ [0xBC] []
    ⟨0x0201, 0x00, 0x00, 0x00, 0x03, 0xEF⟩ [] = true := by decide +kernel
theorem test_V92_DEC : steps {} ⟨0x0200, 0x00, 0x00, 0x00, 0x00, 0xEF⟩ [0x9C] []
    ⟨0x0201, 0xFF, 0x00, 0x00, 0x80, 0xEF⟩ [] = true := by decide +kernel
theorem test_V100_XCN : steps {} ⟨0x0200, 0xA5, 0x00, 0x00, 0x00, 0xEF⟩ [0x9F] []
    ⟨0x0201, 0x5A, 0x00, 0x00, 0x00, 0xEF⟩ [] = true := by decide +kernel
theorem test_V106_INCW : steps {} ⟨0x0200, 0x00, 0x00, 0x00, 0x00, 0xEF⟩ [0x3A, 0x10] [(0x0010, 0xFF), (0x0011, 0x00)]
    ⟨0x0202, 0x00, 0x00, 0x00, 0x00, 0xEF⟩ [(0x0010, 0x00), (0x0011, 0x01)] = true := by decide +kernel
theorem test_V108_INCW : steps { writeWordMode := .sameAddress } ⟨0x0200, 0x00, 0x00, 0x00, 0x00, 0xEF⟩ [0x3A, 0x10] [(0x0010, 0xFF), (0x0011, 0x00)]
    ⟨0x0202, 0x00, 0x00, 0x00, 0x00, 0xEF⟩ [(0x0010, 0x01)] = true := by decide +kernel
theorem test_V109_DECW : steps {} ⟨0x0200, 0x00, 0x00, 0x00, 0x00, 0xEF⟩ [0x1A, 0x10] [(0x0010, 0x00), (0x0011, 0x00)]
    ⟨0x0202, 0x00, 0x00, 0x00, 0x80, 0xEF⟩ [(0x0010, 0xFF), (0x0011, 0xFF)] = true := by decide +kernel
theorem test_V111_ADDW : steps {} ⟨0x0200, 0xFF, 0x00, 0x0F, 0x00, 0xEF⟩ [0x7A, 0x10] [(0x0010, 0x01), (0x0011, 0x00)]
    ⟨0x0202, 0x00, 0x00, 0x10, 0x08, 0xEF⟩ [] = true := by decide +kernel
theorem test_V112_ADDW : steps { halfCarry16 := .precedence } ⟨0x0200, 0xFF, 0x00, 0x0F, 0x00, 0xEF⟩ [0x7A, 0x10] [(0x0010, 0x01), (0x0011, 0x00)]
    ⟨0x0202, 0x00, 0x00, 0x10, 0x08, 0xEF⟩ [] = true := by decide +kernel
theorem test_V120_SUBW : steps {} ⟨0x0200, 0x00, 0x00, 0x10, 0x00, 0xEF⟩ [0x9A, 0x10] [(0x0010, 0x01), (0x0011, 0x00)]
    ⟨0x0202, 0xFF, 0x00, 0x0F, 0x09, 0xEF⟩ [] = true := by decide +kernel
theorem test_V124_CMPW : steps {} ⟨0x0200, 0x00, 0x00, 0x10, 0x00, 0xEF⟩ [0x5A, 0x10] [(0x0010, 0x01), (0x0011, 0x10)]
    ⟨0x0202, 0x00, 0x00, 0x10, 0x80, 0xEF⟩ [] = true := by decide +kernel
theorem test_V126_MUL : steps {} ⟨0x0200, 0xFF, 0x00, 0xFF, 0x00, 0xEF⟩ [0xCF] []
    ⟨0x0201, 0x01, 0x00, 0xFE, 0x80, 0xEF⟩ [] = true := by decide +kernel
theorem test_V129_DIV : steps {} ⟨0x0200, 0x07, 0x10, 0x01, 0x00, 0xEF⟩ [0x9E] []
    ⟨0x0201, 0x10, 0x10, 0x07, 0x48, 0xEF⟩ [] = true := by decide +kernel
theorem test_V133_DIV : steps { divZero := ⟨(0x00, 0x00), []⟩ } ⟨0x0200, 0x34, 0x00, 0x12, 0x00, 0xEF⟩ [0x9E] []
    ⟨0x0201, 0x00, 0x00, 0x00, 0x0A, 0xEF⟩ [] = true := by decide +kernel
theorem test_V134_DAA : steps {} ⟨0x0200, 0x9A, 0x00, 0x00, 0x00, 0xEF⟩ [0xDF] []
    ⟨0x0201, 0x00, 0x00, 0x00, 0x03, 0xEF⟩ [] = true := by decide +kernel
theorem test_V139_DAS : steps {} ⟨0x0200, 0x45, 0x00, 0x00, 0x09, 0xEF⟩ [0xBE] []
    ⟨0x0201, 0x45, 0x00, 0x00, 0x09, 0xEF⟩ [] = true := by decide +kernel
theorem test_V142_BRA : steps {} ⟨0x0200, 0x00, 0x00, 0x00, 0x00, 0xEF⟩ [0x2F, 0x10] []
    ⟨0x0212, 0x00, 0x00, 0x00, 0x00, 0xEF⟩ [] = true := by decide +kernel
theorem test_V145_BRA : steps {} ⟨0xFFF0, 0x00, 0x00, 0x00, 0x00, 0xEF⟩ [0x2F, 0x7F] []
    ⟨0x0071, 0x00, 0x00, 0x00, 0x00, 0xEF⟩ [] = true := by decide +kernel
theorem test_V146_BEQ : steps {} ⟨0x0200, 0x00, 0x00, 0x00, 0x02, 0xEF⟩ [0xF0, 0x10] []
    ⟨0x0212, 0x00, 0x00, 0x00, 0x02, 0xEF⟩ [] = true := by decide +kernel
theorem test_V148_BNE : steps {} ⟨0x0200, 0x00, 0x00, 0x00, 0x00, 0xEF⟩ [0xD0, 0x10] []
    ⟨0x0212, 0x00, 0x00, 0x00, 0x00, 0xEF⟩ [] = true := by decide +kernel
theorem test_V150_BCS : steps {} ⟨0x0200, 0x00, 0x00, 0x00, 0x01, 0xEF⟩ [0xB0, 0x10] []
    ⟨0x0212, 0x00, 0x00, 0x00, 0x01, 0xEF⟩ [] = true := by decide +kernel
theorem test_V151_BCC : steps {} ⟨0x0200, 0x00, 0x00, 0x00, 0x01, 0xEF⟩ [0x90, 0x10] []
    ⟨0x0202, 0x00, 0x00, 0x00, 0x01, 0xEF⟩ [] = true := by decide +kernel
theorem test_V152_BVS : steps {} ⟨0x0200, 0x00, 0x00, 0x00, 0x40, 0xEF⟩ [0x70, 0x10] []
    ⟨0x0212, 0x00, 0x00, 0x00, 0x40, 0xEF⟩ [] = true := by decide +kernel
theorem test_V153_BVC : steps {} ⟨0x0200, 0x00, 0x00, 0x00, 0x40, 0xEF⟩ [0x50, 0x10] []
    ⟨0x0202, 0x00, 0x00, 0x00, 0x40, 0xEF⟩ [] = true := by decide +kernel
theorem test_V154_BMI : steps {} ⟨0x0200, 0x00, 0x00, 0x00, 0x80, 0xEF⟩ [0x30, 0x10] []
    ⟨0x0212, 0x00, 0x00, 0x00, 0x80, 0xEF⟩ [] = true := by decide +kernel
theorem test_V155_BPL : steps {} ⟨0x0200, 0x00, 0x00, 0x00, 0x80, 0xEF⟩ [0x10, 0x10] []
    ⟨0x0202, 0x00, 0x00, 0x00, 0x80, 0xEF⟩ [] = true := by decide +kernel
theorem test_V157_BBS : steps {} ⟨0x0200, 0x00, 0x00, 0x00, 0x00, 0xEF⟩ [0x63, 0x10, 0x05] [(0x0010, 0x08)]
    ⟨0x0208, 0x00, 0x00, 0x00, 0x00, 0xEF⟩ [] = true := by decide +kernel
theorem test_V159_BBC : steps {} ⟨0x0200, 0x00, 0x00, 0x00, 0x00, 0xEF⟩ [0xF3, 0x10, 0x05] [(0x0010, 0x7F)]
    ⟨0x0208, 0x00, 0x00, 0x00, 0x00, 0xEF⟩ [] = true := by decide +kernel
theorem test_V161_CBNE : steps {} ⟨0x0200, 0x42, 0x00, 0x00, 0x00, 0xEF⟩ [0x2E, 0x10, 0x05] [(0x0010, 0x42)]
    ⟨0x0203, 0x42, 0x00, 0x00, 0x00, 0xEF⟩ [] = true := by decide +kernel
theorem test_V163_CBNE : steps {} ⟨0x0200, 0x42, 0x02, 0x00, 0x00, 0xEF⟩ [0xDE, 0x10, 0x05] [(0x0012, 0x00)]
    ⟨0x0208, 0x42, 0x02, 0x00, 0x00, 0xEF⟩ [] = true := by decide +kernel
theorem test_V169_PUSH : steps {} ⟨0x0200, 0x11, 0x00, 0x00, 0x00, 0xEF⟩ [0x2D] []
    ⟨0x0201, 0x11, 0x00, 0x00, 0x00, 0xEE⟩ [(0x01EE, 0x11)] = true := by decide +kernel
theorem test_V170_PUSH : steps { stackDiscipline := .chip } ⟨0x0200, 0x11, 0x00, 0x00, 0x00, 0xEF⟩ [0x2D] []
    ⟨0x0201, 0x11, 0x00, 0x00, 0x00, 0xEE⟩ [(0x01EF, 0x11)] = true := by decide +kernel
theorem test_V171_POP : steps {} ⟨0x0200, 0x00, 0x00, 0x00, 0x00, 0xEE⟩ [0xAE] [(0x01EF, 0x22)]
    ⟨0x0201, 0x22, 0x00, 0x00, 0x00, 0xEF⟩ [] = true := by decide +kernel
theorem test_V172_PUSH : steps {} ⟨0x0200, 0x00, 0x33, 0x00, 0x00, 0x00⟩ [0x4D] []
    ⟨0x0201, 0x00, 0x33, 0x00, 0x00, 0xFF⟩ [(0x01FF, 0x33)] = true := by decide +kernel
theorem test_V179_CALL : steps {} ⟨0x0200, 0x00, 0x00, 0x00, 0x00, 0xEF⟩ [0x3F, 0x34, 0x12] []
    ⟨0x1234, 0x00, 0x00, 0x00, 0x00, 0xED⟩ [(0x01EE, 0x03), (0x01ED, 0x02)] = true := by decide +kernel
theorem test_V180_CALL : steps { stackDiscipline := .chip } ⟨0x0200, 0x00, 0x00, 0x00, 0x00, 0xEF⟩ [0x3F, 0x34, 0x12] []
    ⟨0x1234, 0x00, 0x00, 0x00, 0x00, 0xED⟩ [(0x01EF, 0x02), (0x01EE, 0x03)] = true := by decide +kernel
theorem test_V181_RET : steps {} ⟨0x0200, 0x00, 0x00, 0x00, 0x00, 0xED⟩ [0x6F] [(0x01EE, 0x03), (0x01EF, 0x99)]
    ⟨0x9903, 0x00, 0x00, 0x00, 0x00, 0xEF⟩ [] = true := by decide +kernel
theorem test_V182_RET : steps { stackDiscipline := .chip } ⟨0x0200, 0x00, 0x00, 0x00, 0x00, 0xED⟩ [0x6F] [(0x01EE, 0x03), (0x01EF, 0x02)]
    ⟨0x0203, 0x00, 0x00, 0x00, 0x00, 0xEF⟩ [] = true := by decide +kernel
theorem test_V183_PCALL : steps {} ⟨0x0200, 0x00, 0x00, 0x00, 0x00, 0xEF⟩ [0x4F, 0x80] []
    ⟨0xFF80, 0x00, 0x00, 0x00, 0x00, 0xED⟩ [(0x01EE, 0x02), (0x01ED, 0x02)] = true := by decide +kernel
theorem test_V184_TCALL : steps {} ⟨0x0200, 0x00, 0x00, 0x00, 0x00, 0xEF⟩ [0x01] [(0xFFDE, 0x00), (0xFFDF, 0x40)]
    ⟨0x4000, 0x00, 0x00, 0x00, 0x00, 0xED⟩ [(0x01EE, 0x01), (0x01ED, 0x02)] = true := by decide +kernel
theorem test_V186_TCALL : steps { stackDiscipline := .chip } ⟨0x0200, 0x00, 0x00, 0x00, 0x00, 0xEF⟩ [0x41] [(0xFFD6, 0x00), (0xFFD7, 0x50)]
    ⟨0x5000, 0x00, 0x00, 0x00, 0x00, 0xED⟩ [(0x01EF, 0x02), (0x01EE, 0x01)] = true := by decide +kernel
theorem test_V187_BRK : steps {} ⟨0x0200, 0x00, 0x00, 0x00, 0x04, 0xEF⟩ [0x0F] [(0xFFDE, 0x00), (0xFFDF, 0x60)]
    ⟨0x6000, 0x00, 0x00, 0x00, 0x10, 0xEC⟩ [(0x01EE, 0x01), (0x01ED, 0x02), (0x01EC, 0x04)] = true := by decide +kernel
theorem test_V188_BRK : steps { stackDiscipline := .chip } ⟨0x0200, 0x00, 0x00, 0x00, 0x04, 0xEF⟩ [0x0F] [(0xFFDE, 0x00), (0xFFDF, 0x60)]
    ⟨0x6000, 0x00, 0x00, 0x00, 0x10, 0xEC⟩ [(0x01EF, 0x02), (0x01EE, 0x01), (0x01ED, 0x04)] = true := by decide +kernel
theorem test_V189_RETI : steps { stackDiscipline := .chip } ⟨0x0200, 0x00, 0x00, 0x00, 0x00, 0xEC⟩ [0x7F] [(0x01ED, 0xA5), (0x01EE, 0x03), (0x01EF, 0x02)]
    ⟨0x0203, 0x00, 0x00, 0x00, 0xA5, 0xEF⟩ [] = true := by decide +kernel
theorem test_V191_SET1 : steps {} ⟨0x0200, 0x00, 0x00, 0x00, 0x00, 0xEF⟩ [0x02, 0x10] [(0x0010, 0x00)]
    ⟨0x0202, 0x00, 0x00, 0x00, 0x00, 0xEF⟩ [(0x0010, 0x01)] = true := by decide +kernel
theorem test_V193_CLR1 : steps {} ⟨0x0200, 0x00, 0x00, 0x00, 0x00, 0xEF⟩ [0x12, 0x10] [(0x0010, 0xFF)]
    ⟨0x0202, 0x00, 0x00, 0x00, 0x00, 0xEF⟩ [(0x0010, 0xFE)] = true := by decide +kernel
theorem test_V195_TSET1 : steps {} ⟨0x0200, 0x0F, 0x00, 0x00, 0x00, 0xEF⟩ [0x0E, 0x00, 0x30] [(0x3000, 0x3C)]
    ⟨0x0203, 0x0F, 0x00, 0x00, 0x80, 0xEF⟩ [(0x3000, 0x3F)] = true := by decide +kernel
theorem test_V196_TCLR1 : steps {} ⟨0x0200, 0x0F, 0x00, 0x00, 0x00, 0xEF⟩ [0x4E, 0x00, 0x30] [(0x3000, 0x3C)]
    ⟨0x0203, 0x0F, 0x00, 0x00, 0x80, 0xEF⟩ [(0x3000, 0x30)] = true := by decide +kernel
theorem test_V198_AND1 : steps {} ⟨0x0200, 0x00, 0x00, 0x00, 0x01, 0xEF⟩ [0x4A, 0x00, 0x60] [(0x0000, 0xF7)]
    ⟨0x0203, 0x00, 0x00, 0x00, 0x00, 0xEF⟩ [] = true := by decide +kernel
theorem test_V200_OR1 : steps {} ⟨0x0200, 0x00, 0x00, 0x00, 0x00, 0xEF⟩ [0x0A, 0x00, 0x60] [(0x0000, 0x08)]
    ⟨0x0203, 0x00, 0x00, 0x00, 0x01, 0xEF⟩ [] = true := by decide +kernel
theorem test_V202_EOR1 : steps {} ⟨0x0200, 0x00, 0x00, 0x00, 0x01, 0xEF⟩ [0x8A, 0x00, 0x60] [(0x0000, 0x08)]
    ⟨0x0203, 0x00, 0x00, 0x00, 0x00, 0xEF⟩ [] = true := by decide +kernel
theorem test_V203_NOT1 : steps {} ⟨0x0200, 0x00, 0x00, 0x00, 0x00, 0xEF⟩ [0xEA, 0x00, 0x60] [(0x0000, 0x08)]
    ⟨0x0203, 0x00, 0x00, 0x00, 0x00, 0xEF⟩ [(0x0000, 0x00)] = true := by decide +kernel
theorem test_V207_CLRC : steps {} ⟨0x0200, 0x00, 0x00, 0x00, 0xFF, 0xEF⟩ [0x60] []
    ⟨0x0201, 0x00, 0x00, 0x00, 0xFE, 0xEF⟩ [] = true := by decide +kernel
theorem test_V208_SETC : steps {} ⟨0x0200, 0x00, 0x00, 0x00, 0x00, 0xEF⟩ [0x80] []
    ⟨0x0201, 0x00, 0x00, 0x00, 0x01, 0xEF⟩ [] = true := by decide +kernel
theorem test_V209_NOTC : steps {} ⟨0x0200, 0x00, 0x00, 0x00, 0x01, 0xEF⟩ [0xED] []
    ⟨0x0201, 0x00, 0x00, 0x00, 0x00, 0xEF⟩ [] = true := by decide +kernel
theorem test_V211_CLRV : steps {} ⟨0x0200, 0x00, 0x00, 0x00, 0xFF, 0xEF⟩ [0xE0] []
    ⟨0x0201, 0x00, 0x00, 0x00, 0xBF, 0xEF⟩ [] = true := by decide +kernel
theorem test_V212_CLRP : steps {} ⟨0x0200, 0x00, 0x00, 0x00, 0xFF, 0xEF⟩ [0x20] []
    ⟨0x0201, 0x00, 0x00, 0x00, 0xDF, 0xEF⟩ [] = true := by decide +kernel
theorem test_V213_SETP : steps {} ⟨0x0200, 0x00, 0x00, 0x00, 0x00, 0xEF⟩ [0x40] []
    ⟨0x0201, 0x00, 0x00, 0x00, 0x20, 0xEF⟩ [] = true := by decide +kernel
theorem test_V214_EI : steps {} ⟨0x0200, 0x00, 0x00, 0x00, 0x00, 0xEF⟩ [0xA0] []
    ⟨0x0201, 0x00, 0x00, 0x00, 0x04, 0xEF⟩ [] = true := by decide +kernel
theorem test_V215_DI : steps {} ⟨0x0200, 0x00, 0x00, 0x00, 0xFF, 0xEF⟩ [0xC0] []
    ⟨0x0201, 0x00, 0x00, 0x00, 0xFB, 0xEF⟩ [] = true := by decide +kernel

/-- The host's placement of an instruction is what the next step runs; it changes memory only. -/
theorem test_withFetchWord :
    (State.reset.withFetchWord 24 0x72343F).fetched = some (.call 0x7234) ∧
    { State.reset.withFetchWord 24 0x72343F with mem := [] } = State.reset ∧
    (State.withFetchWord { State.reset with pc := 0xFFFF } 8 0x00).fetched = some .nop := by decide +kernel

/-- `last_addr` is the address of the last byte access (R28): the operand's, and 0x10000 for a pointer read at 0xFFFF. -/
theorem test_last_addr :
    (nextOf (step (start {} ⟨0x0200, 0, 0, 0, 0, 0⟩ [0xE4, 0x20] []))).map State.lastAddr = some 0x0020 ∧
    (nextOf (step (start {} ⟨0x0200, 0, 0, 0, 0, 0⟩ [0x1F, 0xFF, 0xFF] []))).map State.lastAddr = some 0x10000 ∧
    (nextOf (step (start {} ⟨0x0200, 0, 0, 0, 0, 0⟩ [0x00] []))).map State.lastAddr = some 0x0200 := by decide +kernel

/-! ## Concrete instances that meet the hypotheses of the statements -/

/-- `MOV A, #0xF1` at 0x0200; `A = 0x12`, `X = 0x02`, `Y = 0x03`, `SP = 0xEF`, no flag set. -/
def w : State := start {} ⟨0x0200, 0x12, 0x02, 0x03, 0x00, 0xEF⟩ [0xE8, 0xF1] [(0x0010, 0x34), (0x0011, 0x12), (0xFFFF, 0x5A)]

/-- `w` with every flag set and `SP = 0x00`. -/
def wFlags : State := { w with psw := 0xFF, sp := 0x00 }

/-- `w` with a parameter other than its default in each place. -/
def wParams : State := { w with params :=
  { unrecognized := [0xE8], writeWordMode := .sameAddress, stackDiscipline := .chip, halfCarry16 := .precedence,
    overflow8 := .signedOperands } }

/-- `JMP !0x1234` at 0xFFFE: its last byte is at 0x0000. -/
def wWrap : State := start {} ⟨0xFFFE, 0, 0, 0, 0, 0⟩ [] [(0xFFFE, 0x5F), (0xFFFF, 0x34), (0x0000, 0x12)]

/-- The states of `nextOf` are those an equation `= .next t` names. -/
theorem next_of_nextOf {o : Host.Outcome State Fault Refusal} {t : State} (h : nextOf o = some t) : o = .next t := by
  cases o with
  | next u => exact congrArg Host.Outcome.next (Option.some.inj h)
  | fault r => cases h
  | refused r => cases h

theorem witness_LoadReplacesRegistersAndMemory :
    ((w.writeBytes 0xFFFF [0x01, 0x02]).peek 0xFFFF = 0x01 ∧ (w.writeBytes 0xFFFF [0x01, 0x02]).peek 0x10000 = 0 ∧
      (w.writeBytes 0xFFFF [0x01, 0x02]).peek 0x0000 = 0) ∧
    (w.loadSnapshot ⟨1, 2, 3, 4, 5, 6⟩ [0x07]).peek 0x0000 = 0x07 := by decide +kernel

theorem witness_MemReadReturnsByteOrZero :
    (0xFFFF ≤ 0xFFFF ∧ w.peek 0xFFFF = 0x5A) ∧ 0xFFFF < 0x10000 ∧ w.peek 0x10000 = 0 := by decide +kernel

theorem witness_MemWriteStoresOneByte :
    (w.memWrite 0xFFFF 0x77).peek 0xFFFF = 0x77 ∧ 0xFFFF < 0x10000 ∧ (w.memWrite 0x10000 0x77).mem = w.mem := by
  decide +kernel

theorem witness_ReadWordIsLittleEndianWithoutWrap : w.peekWord 0x0010 = 0x1234 ∧ w.peekWord 0xFFFF = 0x005A := by
  decide +kernel

theorem witness_WriteWordFollowsItsMode :
    (w.params.writeWordMode = .split ∧ 0xFFFE < 0xFFFF ∧ (w.writeWord 0xFFFE 0xABCD).peekWord 0xFFFE = 0xABCD ∧
      (w.writeWord 0xFFFF 0xABCD).peek 0xFFFF = 0xCD ∧ (w.writeWord 0xFFFF 0xABCD).peek 0x0000 = 0) ∧
    wParams.params.writeWordMode = .sameAddress ∧ (wParams.writeWord 0x0010 0xABCD).peek 0x0010 = 0xAB ∧
      (wParams.writeWord 0x0010 0xABCD).peek 0x0011 = 0x12 := by decide +kernel

theorem witness_CanonicalMemoryIsUnique :
    w.mem.wf = true ∧ w.mem ≠ [] ∧ ∀ k, k ≤ 0xFFFF → w.mem.byteAt k = w.mem.byteAt k :=
  ⟨by decide +kernel, by decide +kernel, fun _ _ => rfl⟩

theorem witness_DecodeInvertsEncode :
    (Instr.set1 7 0x10).WellFormed ∧ (Instr.tcall 15).WellFormed ∧ (Instr.mov1CMem 7 0x1FFF).WellFormed ∧
      (Instr.cmpADp 0xFF).WellFormed := by decide +kernel

theorem witness_StepRunsDecodedInstruction :
    (w.peek w.pc.toNat ∉ w.params.unrecognized ∧
      decode [w.peek w.pc.toNat, w.peek (w.pc + 1).toNat, w.peek (w.pc + 2).toNat] = .ok (.movAImm 0xF1, [0x00])) ∧
    wWrap.peek wWrap.pc.toNat ∉ wWrap.params.unrecognized ∧
      decode [wWrap.peek wWrap.pc.toNat, wWrap.peek (wWrap.pc + 1).toNat, wWrap.peek (wWrap.pc + 2).toNat] =
        .ok (.jmpAbs 0x1234, []) := by decide +kernel

theorem witness_StepRunsEncodedInstruction :
    (Instr.jmpAbs 0x1234).WellFormed ∧
    (∀ k < (encode (.jmpAbs 0x1234)).length,
      wWrap.peek ((wWrap.pc.toNat + k) % 0x10000) = (encode (.jmpAbs 0x1234)).getD k 0) ∧
    wWrap.peek wWrap.pc.toNat ∉ wWrap.params.unrecognized := by decide +kernel

theorem witness_UnrecognizedOpcodeIsSkipped :
    wParams.peek wParams.pc.toNat ∈ wParams.params.unrecognized ∧ w.peek w.pc.toNat ∉ w.params.unrecognized := by
  decide +kernel

theorem witness_StepKeepsInvariant : w.Inv ∧ ∃ t, step w = .next t :=
  ⟨by decide +kernel, ((nextOf (step w)).get (by decide +kernel)), next_of_nextOf (by simp)⟩

theorem witness_StepKeepsParameters : ∃ t, step wParams = .next t :=
  ⟨((nextOf (step wParams)).get (by decide +kernel)), next_of_nextOf (by simp)⟩

theorem witness_FlagsAndStackPointerHaveFewWriters :
    exec .notc w = .next { w with psw := 0x01 } ∧ Instr.notc ∉ [Instr.setp, .clrp, .popPsw, .reti] ∧
    Instr.notc ∉ [Instr.ei, .di, .brk, .popPsw, .reti] ∧ Instr.notc ∉ [Instr.brk, .popPsw, .reti] ∧
    Instr.notc ∉ [Instr.pushA, .pushX, .pushY, .pushPsw, .popA, .popX, .popY, .popPsw, .brk, .ret, .reti, .movSpX] ∧
    (∀ addr, Instr.notc ≠ .call addr) ∧ (∀ uu, Instr.notc ≠ .pcall uu) ∧ ∀ n, Instr.notc ≠ .tcall n :=
  ⟨next_of_nextOf (by decide +kernel), by decide, by decide, by decide, by decide, fun _ h => Instr.noConfusion h,
    fun _ h => Instr.noConfusion h, fun _ h => Instr.noConfusion h⟩

theorem witness_InterruptFlagInfluencesNothing :
    Instr.popPsw ≠ .pushPsw ∧ Instr.popPsw ≠ .brk ∧ w.setFlag .i true ≠ w := by decide +kernel

theorem witness_DirectPageAddress : (w.dp 0xFF).toNat = 0x00FF ∧ (wFlags.dp 0xFF).toNat = 0x01FF := by decide +kernel

theorem witness_AdcHelperFollowsItsRule :
    0x100 = (0xFE : Byte).toNat + (0x01 : Byte).toNat + (wFlags.flag .c).toNat ∧
    w.params.overflow8 = .unsignedOperands ∧ wParams.params.overflow8 = .signedOperands := by decide +kernel

theorem witness_SbcHelperFollowsItsRule :
    ((-1 : Int) = ((0x00 : Byte).toNat : Int) - (0x01 : Byte).toNat + (1 - (wFlags.flag .c).toNat)) ∧
    (0xFFFF : Nat) = ((-1 : Int) % 0x10000).toNat ∧
    w.params.overflow8 = .unsignedOperands ∧ wParams.params.overflow8 = .signedOperands := by decide +kernel

theorem witness_CompareHelperFollowsItsRule :
    (-127 : Int) = ((0x00 : Byte).toNat : Int) - (0x7F : Byte).toNat := by decide +kernel

theorem witness_HalfCarryIsNibbleCarry : wFlags.flag .c = true := by decide +kernel

theorem witness_ShiftsAndStepsOnRegisters : (Instr.decY, Rmw.dec, Reg.y) ∈ rmwRegForms := by decide +kernel

theorem witness_XcnSwapsNibbles :
    (0x21 : Byte) = BitVec.ofNat 8 (w.a.toNat / 0x10 + 0x10 * (w.a.toNat % 0x10)) ∧
    exec .xcn w = .next { w with a := 0x21 } ∧ exec .xcn { w with a := 0x21 } = .next w :=
  ⟨by decide +kernel, next_of_nextOf (by decide +kernel), next_of_nextOf (by decide +kernel)⟩

theorem witness_LoadsSetRegisterAndNZ :
    (0x34 : Byte) = w.sourceValue (LoadForm.source (.a (.dp 0x10))) ∧
    (0x80 : Byte) = w.sourceValue (LoadForm.source (.xImm 0x80)) := by decide +kernel

theorem witness_AutoIncrementMoves : (0x00 : Byte) = w.peek (w.dp w.x).toNat := by decide +kernel

theorem witness_WordMoves :
    0x0010 = (w.dp 0x10).toNat ∧ 0x1234 = 0x100 * (w.peek (0x0010 + 1)).toNat + (w.peek 0x0010).toNat ∧
    0x01FF = (wFlags.dp 0xFF).toNat ∧
    0xE800 = 0x100 * (wFlags.peek (0x01FF + 1)).toNat + (wFlags.peek 0x01FF).toNat := by decide +kernel

theorem witness_AddwFollowsItsRule :
    0x0312 = 0x100 * w.y.toNat + w.a.toNat ∧
    0x1234 = 0x100 * (w.peek ((w.dp 0x10).toNat + 1)).toNat + (w.peek (w.dp 0x10).toNat).toNat ∧
    0x1546 = 0x0312 + 0x1234 ∧ w.params.halfCarry16 = .intended ∧ wParams.params.halfCarry16 ≠ .intended := by
  decide +kernel

theorem witness_SubwAndCmpwFollowTheirRules :
    0x0312 = 0x100 * w.y.toNat + w.a.toNat ∧
    0x1234 = 0x100 * (w.peek ((w.dp 0x10).toNat + 1)).toNat + (w.peek (w.dp 0x10).toNat).toNat ∧
    0x1F0DE = ((((0x0312 : Nat) : Int) - (0x1234 : Nat)) % 0x20000).toNat ∧ w.params.halfCarry16 = .intended := by
  decide +kernel

theorem witness_MulFollowsItsRule : 0x36 = w.y.toNat * w.a.toNat := by decide +kernel

theorem witness_DivFollowsItsRule :
    0x0312 = 0x100 * w.y.toNat + w.a.toNat ∧ { w with x := 0x00 }.x = 0 ∧ w.x ≠ 0 ∧ { w with x := 0x01 }.x ≠ 0 := by
  decide +kernel

theorem witness_DecimalAdjustments :
    ((0x12 : Byte) = if w.flag .c = true ∨ 0x99 < w.a.toNat then BitVec.ofNat 8 (w.a.toNat + 0x60) else w.a) ∧
    ((0x12 : Byte) =
      if w.flag .h = true ∨ 9 < (0x12 : Byte).toNat % 0x10 then BitVec.ofNat 8 ((0x12 : Byte).toNat + 0x06) else 0x12) ∧
    ((0xB2 : Byte) = if w.flag .c = false ∨ 0x99 < w.a.toNat then BitVec.ofNat 8 (w.a.toNat + 0xA0) else w.a) ∧
    ((0xAC : Byte) =
      if w.flag .h = false ∨ 9 < (0xB2 : Byte).toNat % 0x10 then BitVec.ofNat 8 ((0xB2 : Byte).toNat + 0xFA)
      else 0xB2) := by
  decide +kernel

theorem witness_DecimalAdditionIsCorrect :
    (1 < 10 ∧ 2 < 10 ∧ 9 < 10 ∧ 9 < 10) ∧ w.a = BitVec.ofNat 8 (0x10 * 1 + 2) := by decide +kernel

theorem witness_ConditionalBranches : (Instr.bpl, fun s : State => !s.flag .n) ∈ branchForms := by
  simp [branchForms]

theorem witness_TestAndBranch :
    7 < 8 ∧ (0x02 : Byte) = BitVec.ofNat 8 (w.y.toNat + 0xFF) ∧ w.a ≠ w.peek (w.dp 0x10).toNat := by decide +kernel

theorem witness_DbnzMemoryFetchesAfterItsStore :
    ((0x33 : Byte) = BitVec.ofNat 8 ((w.peek (w.dp 0x10).toNat).toNat + 0xFF) ∧ (0x33 : Byte) ≠ 0 ∧
      w.peek (w.pcAfter 1).toNat = 0xF1 ∧ w.dp 0x10 ≠ w.pcAfter 1) ∧
    { w with pc := 0x000F }.dp 0x10 = { w with pc := 0x000F }.pcAfter 1 := by decide +kernel

theorem witness_JumpsLoadPc : 0x0001 = ((0xFFFF : Word).toNat + w.x.toNat) % 0x10000 := by decide +kernel

theorem witness_CallsPushReturnAddress : 15 < 16 ∧ 0xFFDE - 2 * 15 = 0xFFC0 := by decide

theorem witness_StackRoundTrips :
    (w.params.stackDiscipline ≠ .chip ∧ wParams.params.stackDiscipline = .chip) ∧
    ((nextOf (exec (StackReg.push .psw) wParams)).bind (fun t => nextOf (exec (StackReg.pop .y) t))).map State.y =
      some wParams.psw ∧
    ((nextOf (exec (CallForm.instr (.tcall 15)) wFlags)).bind (fun t => nextOf (exec .ret t))).map State.pc =
      some 0x0000 := by decide +kernel

theorem witness_BitsOfMemoryBytes : 7 < 8 ∧ 0 < 8 ∧ (0x34 : Byte) = w.peek (0x0010 : Word).toNat := by decide +kernel

theorem witness_CarryBitInstructions :
    7 < 8 ∧ false = ((w.peek (0x0010 : BitVec 13).toNat).toNat / 2 ^ 7 % 2 == 1) ∧ false = w.flag .c ∧
    (Instr.mov1CMem 7 0x0010, false) ∈
      [(Instr.and1CMem 7 0x0010, false && false), (Instr.and1CNotMem 7 0x0010, false && !false),
        (Instr.or1CMem 7 0x0010, false || false), (Instr.or1CNotMem 7 0x0010, false || !false),
        (Instr.eor1CMem 7 0x0010, false != false), (Instr.mov1CMem 7 0x0010, false)] := by decide +kernel

theorem witness_MemoryBitInstructions : 7 < 8 ∧ 0x34 = (w.peek (0x0010 : BitVec 13).toNat).toNat := by decide +kernel

theorem witness_FlagInstructions :
    w.psw = pswOf false false false false false false false false ∧
    wFlags.psw = pswOf true true true true true true true true := by decide +kernel

end Sys2Proof.Tests
end

/-! PROOFS. What any instruction can do to the state, said once (`Effect`, `exec_effect`), and what follows for a whole
step: no parameter of R6 changes. -/

namespace Sys2Proof.Machine

/-! ## Everything an instruction can do -/

/-- `Effect s t`: `t` is what one of the shared operations, or one of the few meanings that share none, makes of `s`.
`exec_effect` says that every instruction's meaning is one of these, so that a property of all instructions is a case
split over the operations and not over the 213 instructions. -/
inductive Effect (s : State) : State → Prop where
  /-- OR, AND, EOR, ADC, SBC with destination A (R110 to R112) -/
  | aluA (op : Alu) (src : Source) : Effect s (s.aluA op src)
  /-- the same with a destination in memory (R110 to R112) -/
  | aluMem (op : Alu) (src : Source) (dst : Mode) : Effect s (s.aluMem op src dst)
  /-- CMP of a register (R113) -/
  | cmpReg (r : Reg) (src : Source) : Effect s (s.cmpReg r src)
  /-- CMP of memory (R113) -/
  | cmpMem (src : Source) (dst : Mode) : Effect s (s.cmpMem src dst)
  /-- shift, rotate, INC, DEC of a register (R192, R193) -/
  | rmwReg (op : Rmw) (r : Reg) : Effect s (s.rmwReg op r)
  /-- shift, rotate, INC, DEC of memory (R192, R193) -/
  | rmwMem (op : Rmw) (m : Mode) : Effect s (s.rmwMem op m)
  /-- XCN, and MOV between registers (R222, R326 to R330) -/
  | loadValue (r : Reg) (v : Byte) : Effect s (s.loadValue r v)
  /-- MOV to a register from an operand (R293 to R310) -/
  | load (r : Reg) (src : Source) : Effect s (s.load r src)
  /-- `MOV A, (X)+` (R295) -/
  | loadInc : Effect s ((s.modeRead .xInd).incX.loadValue .a (s.modeValue .xInd))
  /-- MOV to memory from a register (R311 to R325) -/
  | store (r : Reg) (m : Mode) : Effect s (s.store r m)
  /-- `MOV (X)+, A` (R312) -/
  | storeInc : Effect s (s.store .a .xInd).incX
  /-- `MOV SP, X` (R331) -/
  | movSpX : Effect s { s with sp := s.x }
  /-- MOV to memory from an operand (R332, R333) -/
  | moveMem (src : Source) (dst : Mode) : Effect s (s.moveMem src dst)
  /-- `MOVW YA, dp` (R224) -/
  | movwYaDp (dd : Byte) : Effect s (((s.dpWordRead dd).setYA (s.dpWord dd)).setNZ16 (s.dpWord dd))
  /-- `MOVW dp, YA` (R225) -/
  | movwDpYa (dd : Byte) : Effect s (s.fetch8.writeWord (s.dp dd).toNat s.ya)
  /-- INCW, DECW (R226, R227) -/
  | rmwWord (dd : Byte) (w : Word) : Effect s (s.rmwWord dd w)
  /-- ADDW (R228) -/
  | addw (dd : Byte) : Effect s
      (((s.dpWordRead dd).addwFlags s.ya (s.dpWord dd)).setYA ((addwResult s.ya (s.dpWord dd)).setWidth 16))
  /-- SUBW (R229) -/
  | subw (dd : Byte) : Effect s
      (((s.dpWordRead dd).subwFlags s.ya (s.dpWord dd)).setYA ((subwResult s.ya (s.dpWord dd)).setWidth 16))
  /-- CMPW (R230) -/
  | cmpw (dd : Byte) : Effect s ((s.dpWordRead dd).cmpwFlags s.ya (s.dpWord dd))
  /-- MUL (R231) -/
  | mul : Effect s ((s.setYA (mulResult s.y s.a)).setNZ8 (highByte (mulResult s.y s.a)))
  /-- DIV (R232) -/
  | div : Effect s s.divYA
  /-- DAA, DAS: C takes `c` where the first test holds (R233, R234) -/
  | decimalAdjust (high c : Bool) (v : Byte) : Effect s ((if high then s.setFlag .c c else s).loadValue .a v)
  /-- BRA and the branches on a flag (R235 to R243) -/
  | branch (taken : Bool) (rr : Byte) : Effect s (s.branchIf taken rr)
  /-- BBS, BBC, CBNE (R244 to R247) -/
  | branchOnByte (m : Mode) (taken : Bool) (rr : Byte) : Effect s ((s.modeRead m).branchIf taken rr)
  /-- `DBNZ dp, rel` (R248) -/
  | dbnzMem (dd rr : Byte) : Effect s (s.dbnzMem dd rr)
  /-- `DBNZ Y, rel` (R249) -/
  | dbnzY (rr : Byte) : Effect s ({ s with y := s.y - 1 }.branchIf (s.y - 1 != 0) rr)
  /-- `JMP !abs` (R250) -/
  | jump (addr : Word) : Effect s (s.fetch16.jump addr)
  /-- `JMP [!abs+X]` (R251) -/
  | jumpIndirect (addr : Word) : Effect s (s.fetch16.jumpVector (addr + zext s.x).toNat)
  /-- CALL (R256) -/
  | call (addr : Word) : Effect s (s.fetch16.callTo addr)
  /-- PCALL (R257) -/
  | pcall (uu : Byte) : Effect s (s.fetch8.callTo (0xFF00 + zext uu))
  /-- TCALL (R258) -/
  | tcall (n : Nat) : Effect s (s.pushPC.jumpVector (0xFFDE - 2 * n))
  /-- BRK (R259) -/
  | brk : Effect s s.takeTrap
  /-- RET (R260) -/
  | ret : Effect s s.popPC
  /-- RETI (R261) -/
  | reti : Effect s s.returnFromTrap
  /-- PUSH (R262 to R265) -/
  | push (v : Byte) : Effect s (s.push8 v)
  /-- POP of a general register (R266 to R268) -/
  | pop (r : Reg) : Effect s (s.pop8.setReg r s.pop8Value)
  /-- POP PSW (R269) -/
  | popPsw : Effect s { s.pop8 with psw := s.pop8Value }
  /-- SET1, CLR1 (R270, R271) -/
  | dpBitWrite (bit : Nat) (dd : Byte) (v : Bool) : Effect s (s.dpBitWrite bit dd v)
  /-- TSET1, TCLR1 (R272, R273) -/
  | testWrite (addr : Word) (w : Byte) : Effect s (s.testWrite addr w)
  /-- AND1, OR1, EOR1, MOV1 with destination C (R274 to R279) -/
  | memBitToC (addr : BitVec 13) (v : Bool) : Effect s (s.memBitToC addr v)
  /-- NOT1, MOV1 with destination mem.bit (R280, R281) -/
  | memBitWrite (bit : Nat) (addr : BitVec 13) (v : Bool) : Effect s (s.memBitWrite bit addr v)
  /-- the flag instructions, EI, DI (R282 to R289) -/
  | setFlag (f : Flag) (v : Bool) : Effect s (s.setFlag f v)
  /-- NOP, SLEEP, STOP (R290 to R292) -/
  | unchanged : Effect s s

/-- Every instruction completes (R334), and with one of the effects: the arms of `exec`, grouped by the operation each is
one line over. -/
theorem exec_effect (i : Instr) (s : State) : ∃ t, exec i s = .next t ∧ Effect s t :=
  match i with
  | .orAImm _ | .orAXInd | .orADp _ | .orADpX _ | .orAAbs _ | .orAAbsX _ | .orAAbsY _ | .orAIndX _ | .orAIndY _
  | .andAImm _ | .andAXInd | .andADp _ | .andADpX _ | .andAAbs _ | .andAAbsX _ | .andAAbsY _ | .andAIndX _ | .andAIndY _
  | .eorAImm _ | .eorAXInd | .eorADp _ | .eorADpX _ | .eorAAbs _ | .eorAAbsX _ | .eorAAbsY _ | .eorAIndX _ | .eorAIndY _
  | .adcAImm _ | .adcAXInd | .adcADp _ | .adcADpX _ | .adcAAbs _ | .adcAAbsX _ | .adcAAbsY _ | .adcAIndX _ | .adcAIndY _
  | .sbcAImm _ | .sbcAXInd | .sbcADp _ | .sbcADpX _ | .sbcAAbs _ | .sbcAAbsX _ | .sbcAAbsY _ | .sbcAIndX _ | .sbcAIndY _ =>
    ⟨_, rfl, .aluA ..⟩
  | .orXY | .orDpDp _ _ | .orDpImm _ _ | .andXY | .andDpDp _ _ | .andDpImm _ _ | .eorXY | .eorDpDp _ _ | .eorDpImm _ _
  | .adcXY | .adcDpDp _ _ | .adcDpImm _ _ | .sbcXY | .sbcDpDp _ _ | .sbcDpImm _ _ => ⟨_, rfl, .aluMem ..⟩
  | .cmpAImm _ | .cmpAXInd | .cmpADp _ | .cmpADpX _ | .cmpAAbs _ | .cmpAAbsX _ | .cmpAAbsY _ | .cmpAIndX _ | .cmpAIndY _
  | .cmpXImm _ | .cmpXDp _ | .cmpXAbs _ | .cmpYImm _ | .cmpYDp _ | .cmpYAbs _ => ⟨_, rfl, .cmpReg ..⟩
  | .cmpXY | .cmpDpDp _ _ | .cmpDpImm _ _ => ⟨_, rfl, .cmpMem ..⟩
  | .aslA | .lsrA | .rolA | .rorA | .incA | .incX | .incY | .decA | .decX | .decY => ⟨_, rfl, .rmwReg ..⟩
  | .aslDp _ | .aslDpX _ | .aslAbs _ | .lsrDp _ | .lsrDpX _ | .lsrAbs _ | .rolDp _ | .rolDpX _ | .rolAbs _
  | .rorDp _ | .rorDpX _ | .rorAbs _ | .incDp _ | .incDpX _ | .incAbs _ | .decDp _ | .decDpX _ | .decAbs _ =>
    ⟨_, rfl, .rmwMem ..⟩
  | .xcn | .movAX | .movAY | .movXA | .movYA | .movXSp => ⟨_, rfl, .loadValue ..⟩
  | .movAImm _ | .movAXInd | .movADp _ | .movADpX _ | .movAAbs _ | .movAAbsX _ | .movAAbsY _ | .movAIndX _ | .movAIndY _
  | .movXImm _ | .movXDp _ | .movXDpY _ | .movXAbs _ | .movYImm _ | .movYDp _ | .movYDpX _ | .movYAbs _ =>
    ⟨_, rfl, .load ..⟩
  | .movAXInc => ⟨_, rfl, .loadInc⟩
  | .movXIndA | .movDpA _ | .movDpXA _ | .movAbsA _ | .movAbsXA _ | .movAbsYA _ | .movIndXA _ | .movIndYA _
  | .movDpX _ | .movDpYX _ | .movAbsX _ | .movDpY _ | .movDpXY _ | .movAbsY _ => ⟨_, rfl, .store ..⟩
  | .movXIncA => ⟨_, rfl, .storeInc⟩
  | .movSpX => ⟨_, rfl, .movSpX⟩
  | .movDpDp _ _ | .movDpImm _ _ => ⟨_, rfl, .moveMem ..⟩
  | .movwYaDp _ => ⟨_, rfl, .movwYaDp ..⟩
  | .movwDpYa _ => ⟨_, rfl, .movwDpYa ..⟩
  | .incw _ | .decw _ => ⟨_, rfl, .rmwWord ..⟩
  | .addw _ => ⟨_, rfl, .addw ..⟩
  | .subw _ => ⟨_, rfl, .subw ..⟩
  | .cmpw _ => ⟨_, rfl, .cmpw ..⟩
  | .mul => ⟨_, rfl, .mul⟩
  | .div => ⟨_, rfl, .div⟩
  | .daa | .das => ⟨_, rfl, .decimalAdjust ..⟩
  | .bra _ | .beq _ | .bne _ | .bcs _ | .bcc _ | .bvs _ | .bvc _ | .bmi _ | .bpl _ => ⟨_, rfl, .branch ..⟩
  | .bbs _ _ _ | .bbc _ _ _ | .cbneDp _ _ | .cbneDpX _ _ => ⟨_, rfl, .branchOnByte ..⟩
  | .dbnzDp _ _ => ⟨_, rfl, .dbnzMem ..⟩
  | .dbnzY _ => ⟨_, rfl, .dbnzY ..⟩
  | .jmpAbs _ => ⟨_, rfl, .jump ..⟩
  | .jmpAbsXInd _ => ⟨_, rfl, .jumpIndirect ..⟩
  | .call _ => ⟨_, rfl, .call ..⟩
  | .pcall _ => ⟨_, rfl, .pcall ..⟩
  | .tcall _ => ⟨_, rfl, .tcall ..⟩
  | .brk => ⟨_, rfl, .brk⟩
  | .ret => ⟨_, rfl, .ret⟩
  | .reti => ⟨_, rfl, .reti⟩
  | .pushA | .pushX | .pushY | .pushPsw => ⟨_, rfl, .push ..⟩
  | .popA | .popX | .popY => ⟨_, rfl, .pop ..⟩
  | .popPsw => ⟨_, rfl, .popPsw⟩
  | .set1 _ _ | .clr1 _ _ => ⟨_, rfl, .dpBitWrite ..⟩
  | .tset1 _ | .tclr1 _ => ⟨_, rfl, .testWrite ..⟩
  | .and1CMem _ _ | .and1CNotMem _ _ | .or1CMem _ _ | .or1CNotMem _ _ | .eor1CMem _ _ | .mov1CMem _ _ =>
    ⟨_, rfl, .memBitToC ..⟩
  | .not1 _ _ | .mov1MemC _ _ => ⟨_, rfl, .memBitWrite ..⟩
  | .clrc | .setc | .notc | .clrv | .clrp | .setp | .ei | .di => ⟨_, rfl, .setFlag ..⟩
  | .nop | .sleep | .stop => ⟨_, rfl, .unchanged⟩

/-- An instruction that goes on to `t` has an effect that makes `t`. -/
theorem effect_of_exec {i : Instr} {s t : State} (h : exec i s = .next t) : Effect s t := by
  obtain ⟨u, hu, he⟩ := exec_effect i s
  obtain rfl : u = t := Host.Outcome.next.inj (hu.symm.trans h)
  exact he

/-- Everything a step can do (R81, R86): after the opcode fetch an instruction has its effect, where an unrecognized
opcode has the effect of a no-op. -/
theorem effect_of_step {s t : State} (h : step s = .next t) : Effect s.fetch8 t := by
  unfold step at h
  split at h
  case h_1 i _ => exact effect_of_exec h
  case h_2 =>
    obtain rfl : s.fetch8 = t := Host.Outcome.next.inj h
    exact .unchanged

/-! ## The parameters under the shared operations -/

@[simp] theorem State.aluA_params (s : State) (op : Alu) (src : Source) : (s.aluA op src).params = s.params := by
  rw [State.aluA_eq]
@[simp] theorem State.aluMem_params (s : State) (op : Alu) (src : Source) (dst : Mode) :
    (s.aluMem op src dst).params = s.params := by rw [State.aluMem_eq]
@[simp] theorem State.cmpReg_params (s : State) (r : Reg) (src : Source) : (s.cmpReg r src).params = s.params := by
  rw [State.cmpReg_eq]
@[simp] theorem State.cmpMem_params (s : State) (src : Source) (dst : Mode) :
    (s.cmpMem src dst).params = s.params := by rw [State.cmpMem_eq]
@[simp] theorem State.rmwReg_params (s : State) (op : Rmw) (r : Reg) : (s.rmwReg op r).params = s.params := by
  rw [State.rmwReg_eq]
@[simp] theorem State.rmwMem_params (s : State) (op : Rmw) (m : Mode) : (s.rmwMem op m).params = s.params := by
  rw [State.rmwMem_eq]
@[simp] theorem State.loadValue_params (s : State) (r : Reg) (v : Byte) : (s.loadValue r v).params = s.params := by
  simp [State.loadValue]
@[simp] theorem State.load_params (s : State) (r : Reg) (src : Source) : (s.load r src).params = s.params := by
  rw [State.load_eq]
@[simp] theorem State.store_params (s : State) (r : Reg) (m : Mode) : (s.store r m).params = s.params := by
  rw [State.store_eq]
@[simp] theorem State.moveMem_params (s : State) (src : Source) (dst : Mode) :
    (s.moveMem src dst).params = s.params := by rw [State.moveMem_eq]
@[simp] theorem State.dpWordRead_params (s : State) (dd : Byte) : (s.dpWordRead dd).params = s.params := by
  simp [State.dpWordRead]
@[simp] theorem State.rmwWord_params (s : State) (dd : Byte) (w : Word) : (s.rmwWord dd w).params = s.params := by
  rw [State.rmwWord_eq]
@[simp] theorem State.divYA_params (s : State) : s.divYA.params = s.params := by rw [State.divYA_eq]
@[simp] theorem State.dbnzMem_params (s : State) (dd rr : Byte) : (s.dbnzMem dd rr).params = s.params := by
  simp [State.dbnzMem, State.dbnzWrite]
@[simp] theorem State.callTo_params (s : State) (target : Word) : (s.callTo target).params = s.params := by
  rw [State.callTo_eq]
@[simp] theorem State.takeTrap_params (s : State) : s.takeTrap.params = s.params := by simp [State.takeTrap]
@[simp] theorem State.returnFromTrap_params (s : State) : s.returnFromTrap.params = s.params := by
  rw [State.returnFromTrap_eq]
@[simp] theorem State.dpBitWrite_params (s : State) (bit : Nat) (dd : Byte) (v : Bool) :
    (s.dpBitWrite bit dd v).params = s.params := by rw [State.dpBitWrite_eq]
@[simp] theorem State.testWrite_params (s : State) (addr : Word) (w : Byte) :
    (s.testWrite addr w).params = s.params := by rw [State.testWrite_eq]
@[simp] theorem State.memBitToC_params (s : State) (addr : BitVec 13) (v : Bool) :
    (s.memBitToC addr v).params = s.params := by rw [State.memBitToC_eq]
@[simp] theorem State.memBitWrite_params (s : State) (bit : Nat) (addr : BitVec 13) (v : Bool) :
    (s.memBitWrite bit addr v).params = s.params := by rw [State.memBitWrite_eq]

/-! ## Every step keeps the parameters -/

/-- No effect changes a parameter: each is an operation with its `_params` lemma, or a short chain of them. -/
theorem Effect.params_eq {s t : State} (h : Effect s t) : t.params = s.params := by
  cases h with
  | decimalAdjust high c v => cases high <;> simp
  | _ => simp

/-- Settles O17: a step is the opcode fetch followed by an effect, and neither changes a parameter. -/
theorem stepKeepsParameters : Obligations.StepKeepsParameters := by
  intro s t h
  calc t.params = s.fetch8.params := (effect_of_step h).params_eq
    _ = s.params := s.fetch8_params

end Sys2Proof.Machine

/-! PROOFS. The state as a whole (spec/10_state.md): the invariant every step keeps, construction and the load, the half
carry, which instructions write P, I, B and SP, and that nothing but a push of PSW reads I. Each property of all
instructions goes through `Effect` or through one lemma for each shared operation. -/

namespace Sys2Proof.Machine

/-! ## The invariant -/

/-- The address after a 16-bit one is one that `last_addr` can have (R28, R37). -/
theorem word_toNat_lt (w : Word) : w.toNat < 0x10000 := w.isLt

/-- So is a 16-bit address itself. -/
theorem word_toNat_le (w : Word) : w.toNat ≤ 0x10000 := (word_toNat_lt w).le

/-- A stack address is one that `last_addr` can have. -/
theorem stackAddr_le_lastAddr (b : Byte) : stackAddr b ≤ 0x10000 := Nat.le_trans (stackAddr_le b) (by decide)

/-- A push goes to page 1 (R14, R252). -/
theorem State.pushSlot_le (s : State) (k : Nat) : s.pushSlot k ≤ 0x10000 := by
  unfold State.pushSlot
  split <;> omega

/-- The high byte of a word at a 16-bit address goes to an address up to 0x10000 (R37, R38). -/
theorem State.highByteAddr_le (s : State) (w : Word) : s.highByteAddr w.toNat ≤ 0x10000 := by
  have := w.isLt
  unfold State.highByteAddr
  split <;> omega

/-- A source operand is read at a 16-bit address. -/
theorem State.sourceAddr_le (s : State) (src : Source) : s.sourceAddr src ≤ 0x10000 := by
  cases src <;> exact word_toNat_le _

@[simp] theorem State.dpWordRead_mem (s : State) (dd : Byte) : (s.dpWordRead dd).mem = s.mem := by
  simp [State.dpWordRead]
@[simp] theorem State.dpWordRead_lastAddr (s : State) (dd : Byte) :
    (s.dpWordRead dd).lastAddr = (s.dp dd).toNat + 1 := by simp [State.dpWordRead]

/-- Every effect keeps the invariant: memory is left as it is or written by MemWrite, and `last_addr` is left as it is or
becomes an address of 16 bits, one more than that, or a stack address. -/
theorem Effect.inv {s t : State} (h : Effect s t) (hs : s.Inv) : t.Inv := by
  obtain ⟨hm, hl⟩ := hs
  cases h with
  | aluA op src => rw [State.aluA_eq]; exact ⟨hm, s.sourceAddr_le src⟩
  | aluMem op src dst => rw [State.aluMem_eq]; exact ⟨State.memWrite_wf _ _ hm, word_toNat_le _⟩
  | cmpReg r src => rw [State.cmpReg_eq]; exact ⟨hm, s.sourceAddr_le src⟩
  | cmpMem src dst => rw [State.cmpMem_eq]; exact ⟨hm, word_toNat_le _⟩
  | rmwReg op r => rw [State.rmwReg_eq]; exact ⟨hm, hl⟩
  | rmwMem op m => rw [State.rmwMem_eq]; exact ⟨State.memWrite_wf _ _ hm, word_toNat_le _⟩
  | loadValue r v => simp [State.Inv, State.loadValue, hm, hl]
  | load r src => rw [State.load_eq]; exact ⟨hm, s.sourceAddr_le src⟩
  | loadInc => exact ⟨hm, word_toNat_le _⟩
  | store r m => rw [State.store_eq]; exact ⟨State.memWrite_wf _ _ hm, word_toNat_le _⟩
  | storeInc => rw [State.store_eq]; exact ⟨State.memWrite_wf _ _ hm, word_toNat_le _⟩
  | movSpX => exact ⟨hm, hl⟩
  | moveMem src dst => rw [State.moveMem_eq]; exact ⟨State.memWrite_wf _ _ hm, word_toNat_le _⟩
  | movwYaDp dd => simp [State.Inv, hm, word_toNat_lt]
  | movwDpYa dd => exact ⟨State.writeWord_wf _ _ hm, State.highByteAddr_le _ _⟩
  | rmwWord dd w => rw [State.rmwWord_eq]; exact ⟨State.writeWord_wf _ _ hm, s.highByteAddr_le _⟩
  | addw dd => simp [State.Inv, hm, word_toNat_lt]
  | subw dd => simp [State.Inv, hm, word_toNat_lt]
  | cmpw dd => simp [State.Inv, hm, word_toNat_lt]
  | mul => exact ⟨hm, hl⟩
  | div => rw [State.divYA_eq]; exact ⟨hm, hl⟩
  | decimalAdjust high c v => cases high <;> simp [State.Inv, State.loadValue, hm, hl]
  | branch taken rr => simp [State.Inv, hm, word_toNat_le]
  | branchOnByte m taken rr => simp [State.Inv, hm, word_toNat_le]
  | dbnzMem dd rr =>
    rw [State.dbnzMem, State.Inv, State.branchIf_mem, State.branchIf_lastAddr]
    exact ⟨State.memWrite_wf _ _ hm, word_toNat_le _⟩
  | dbnzY rr => simp [State.Inv, hm, word_toNat_le]
  | jump addr => exact ⟨hm, word_toNat_le _⟩
  | jumpIndirect addr => exact ⟨hm, word_toNat_lt _⟩
  | call addr => rw [State.callTo_eq]; exact ⟨State.pushPC_wf hm, State.pushSlot_le _ _⟩
  | pcall uu => rw [State.callTo_eq]; exact ⟨State.pushPC_wf hm, State.pushSlot_le _ _⟩
  | tcall n => exact ⟨State.pushPC_wf hm, show 0xFFDE - 2 * n + 1 ≤ 0x10000 by omega⟩
  | brk => exact ⟨State.push8_wf _ (State.pushPC_wf hm), show brkVector + 1 ≤ 0x10000 by decide⟩
  | ret => exact ⟨hm, stackAddr_le_lastAddr _⟩
  | reti => exact ⟨hm, stackAddr_le_lastAddr _⟩
  | push v => exact ⟨State.push8_wf v hm, (s.push8_lastAddr v).le.trans (s.pushSlot_le 1)⟩
  | pop r => simp [State.Inv, hm, stackAddr_le_lastAddr]
  | popPsw => exact ⟨hm, stackAddr_le_lastAddr _⟩
  | dpBitWrite bit dd v => rw [State.dpBitWrite_eq]; exact ⟨State.memWrite_wf _ _ hm, word_toNat_le _⟩
  | testWrite addr w => rw [State.testWrite_eq]; exact ⟨State.memWrite_wf _ _ hm, word_toNat_le _⟩
  | memBitToC addr v => rw [State.memBitToC_eq]; exact ⟨hm, word_toNat_le _⟩
  | memBitWrite bit addr v => rw [State.memBitWrite_eq]; exact ⟨State.memWrite_wf _ _ hm, word_toNat_le _⟩
  | setFlag f v => exact ⟨hm, hl⟩
  | unchanged => exact ⟨hm, hl⟩

/-- The opcode fetch keeps the invariant: PC is a 16-bit address. -/
theorem State.fetch8_inv {s : State} (hs : s.Inv) : s.fetch8.Inv := ⟨hs.1, word_toNat_le s.pc⟩

/-- Settles O15: a step is the opcode fetch followed by an effect, and both keep the invariant. -/
theorem stepKeepsInvariant : Obligations.StepKeepsInvariant :=
  fun _ _ hs h => (effect_of_step h).inv (State.fetch8_inv hs)

/-! ## The state after construction -/

/-- Settles O1: an address of the empty memory list reads 0. -/
theorem resetIsZeroed : Obligations.ResetIsZeroed := by
  have hmem : ∀ k, State.reset.peek k = 0 := by
    intro k
    simp [State.peek, State.reset, Memory.byteAt, Memory.unlisted]
  exact ⟨rfl, rfl, rfl, rfl, rfl, rfl, hmem, rfl⟩

/-- Settles O16: memory is the empty list and `last_addr` is 0. -/
theorem resetMeetsInvariant : Obligations.ResetMeetsInvariant := ⟨rfl, Nat.zero_le _⟩

/-! ## `last_addr` -/

/-- What is fetched at PC does not depend on `last_addr` (R28). -/
theorem State.fetched_lastAddr (s : State) (k : Nat) : State.fetched { s with lastAddr := k } = s.fetched := rfl

/-- The opcode fetch overwrites `last_addr` (R28, R87). -/
theorem State.fetch8_of_lastAddr (s : State) (k : Nat) : State.fetch8 { s with lastAddr := k } = s.fetch8 := rfl

/-- Settles O18: the opcode fetch overwrites `last_addr` before an instruction runs, and what is fetched is read from
memory at PC. -/
theorem lastAddressInfluencesNothing : Obligations.LastAddressInfluencesNothing := by
  intro s k
  constructor
  · rw [step, State.fetched_lastAddr, State.fetch8_of_lastAddr, step]
  · rw [State.unknownOpcode, State.fetched_lastAddr, State.unknownOpcode]
    rfl

/-! ## The load -/

/-- `writeBytes` changes memory and `last_addr` only (R39). -/
theorem State.writeBytes_eq (s : State) (addr : Nat) (bytes : List Byte) :
    s.writeBytes addr bytes =
      { s with mem := (s.writeBytes addr bytes).mem, lastAddr := (s.writeBytes addr bytes).lastAddr } := by
  induction bytes generalizing s addr with
  | nil => rfl
  | cons b bs ih => exact ih (s.memWrite addr b) (addr + 1)

/-- What reads after `writeBytes` (R39): each byte goes to an address of its own, so the buffer's first byte stands after the
rest is written. -/
theorem State.peek_writeBytes (s : State) (addr : Nat) (bytes : List Byte) (k : Nat) :
    (s.writeBytes addr bytes).peek k =
      if addr ≤ k ∧ k < addr + bytes.length ∧ k ≤ 0xFFFF then bytes.getD (k - addr) 0 else s.peek k := by
  induction bytes generalizing s addr with
  | nil =>
    rw [if_neg (by rw [List.length_nil]; omega)]
    rfl
  | cons b bs ih =>
    rw [State.writeBytes, ih, State.peek_memWrite]
    rcases Nat.lt_trichotomy k addr with hlt | rfl | hgt
    · simp [Nat.not_le.mpr hlt, hlt.ne, show ¬ addr + 1 ≤ k by omega]
    · simp
    · have hidx : k - addr = (k - (addr + 1)) + 1 := by omega
      have hlen : addr + 1 + bs.length = addr + (b :: bs).length := by rw [List.length_cons]; omega
      simp only [hidx, hlen, List.getD_cons_succ, hgt.le, Nat.succ_le_of_lt hgt, hgt.ne', true_and, false_and, if_false]

/-- A full copy of the registers leaves memory alone (R33). -/
@[simp] theorem State.loadRegisters_peek (s : State) (r : Snapshot) (k : Nat) :
    (s.loadRegisters r).peek k = s.peek k := rfl

/-- Settles O2: the registers are copied whole, and the buffer is then written from address 0 upwards. -/
theorem loadReplacesRegistersAndMemory : Obligations.LoadReplacesRegistersAndMemory := by
  refine ⟨fun _ _ => rfl, fun s addr bytes => ⟨s.writeBytes_eq addr bytes, s.peek_writeBytes addr bytes⟩,
    fun s r buffer => ⟨(s.loadRegisters r).writeBytes_eq 0 buffer, fun k => ?_⟩⟩
  simpa [State.loadSnapshot] using (s.loadRegisters r).peek_writeBytes 0 buffer k

/-! ## Half carry -/

/-- `(b & 0x10) != 0` is bit 4. -/
theorem and_0x10_ne_zero (b : Byte) : (b &&& 0x10 != 0) = b.getLsbD 4 := by
  have h : (0x10 : Byte) = BitVec.twoPow 8 4 := by decide
  rw [h, BitVec.and_twoPow]
  cases b.getLsbD 4 <;> decide

/-- Bit 4 of a byte, as a number. -/
theorem byte_bit4 (b : Byte) : b.getLsbD 4 = decide (b.toNat / 0x10 % 2 = 1) := Nat.testBit_eq_decide_div_mod_eq

/-- Exclusive or adds parities. -/
theorem decide_odd_xor (m n : Nat) : (decide (m % 2 = 1) ^^ decide (n % 2 = 1)) = decide ((m + n) % 2 = 1) := by
  rcases Nat.mod_two_eq_zero_or_one m with hm | hm
  · simp [hm, Nat.add_mod]
  · rcases Nat.mod_two_eq_zero_or_one n with hn | hn <;> simp [hm, hn, Nat.add_mod]

/-- The half carry of ADC8 and SBC8 is the sum of the three bits 4, modulo 2 (R111, R112). -/
theorem halfCarry8_iff (v1 v2 r : Byte) :
    halfCarry8 v1 v2 r = true ↔ (v1.toNat / 0x10 + v2.toNat / 0x10 + r.toNat / 0x10) % 2 = 1 := by
  rw [halfCarry8, and_0x10_ne_zero, BitVec.getLsbD_xor, BitVec.getLsbD_xor, byte_bit4, byte_bit4, byte_bit4,
    decide_odd_xor, decide_odd_xor, decide_eq_true_iff]

/-- The H that ADC8 writes (R111). -/
theorem State.adcFlags_h (s : State) (v1 v2 : Byte) :
    (s.adcFlags v1 v2).flag .h = halfCarry8 v1 v2 (adcResult (s.flag .c) v1 v2) := by
  simp [State.adcFlags, State.flag_setNZ8, State.flag_setFlag]

/-- The H that SBC8 writes (R112). -/
theorem State.sbcFlags_h (s : State) (v1 v2 : Byte) :
    (s.sbcFlags v1 v2).flag .h = halfCarry8 v1 v2 (sbcResult (s.flag .c) v1 v2) := by
  simp [State.sbcFlags, State.flag_setNZ8, State.flag_setFlag]

/-- The byte ADC8 returns, as a number (R111). -/
theorem adcResult_toNat (c : Bool) (v1 v2 : Byte) :
    (adcResult c v1 v2).toNat = (v1.toNat + v2.toNat + c.toNat) % 0x100 := by
  simp [adcResult, adcSum]

/-- The byte SBC8 returns where C is set, as a number (R112). -/
theorem sbcResult_toNat_of_carry (v1 v2 : Byte) :
    (sbcResult true v1 v2).toNat = (v1.toNat + 0x100 - v2.toNat) % 0x100 := by
  have := v2.isLt
  have hdiff : sbcDiff true v1 v2 = (v1.toNat : Int) - v2.toNat := by simp [sbcDiff, borrowTerm]
  rw [sbcResult, sbcWord, hdiff, lowByte, BitVec.extractLsb'_toNat, BitVec.toNat_ofInt, Nat.shiftRight_zero]
  omega

/-- Settles O27: bit 4 of the result is that of a sum or difference whose low nibbles carry or borrow into it. -/
theorem halfCarryIsNibbleCarry : Obligations.HalfCarryIsNibbleCarry := by
  intro s v1 v2
  have h1 := v1.isLt
  have h2 := v2.isLt
  constructor
  · have hc := (s.flag .c).toNat_le
    rw [State.aluFlags, State.adcFlags_h, halfCarry8_iff, adcResult_toNat]
    omega
  · intro hc
    rw [State.aluFlags, State.sbcFlags_h, hc, halfCarry8_iff, sbcResult_toNat_of_carry]
    omega

/-! ## The flags P, I and B -/

/-- P, I and B, the three flags that no arithmetic, logic or load writes (R19, R21, R22); `flag_of_exec` below is the claim. -/
def Flag.isControl (f : Flag) : Bool :=
  match f with
  | .p => true
  | .i => true
  | .b => true
  | _ => false

@[simp] theorem Flag.isControl_c : Flag.isControl .c = false := by decide
@[simp] theorem Flag.isControl_z : Flag.isControl .z = false := by decide
@[simp] theorem Flag.isControl_h : Flag.isControl .h = false := by decide
@[simp] theorem Flag.isControl_v : Flag.isControl .v = false := by decide
@[simp] theorem Flag.isControl_n : Flag.isControl .n = false := by decide

/-- A write of any other flag keeps these three. -/
@[simp] theorem State.flag_setFlag_of_control {f g : Flag} (hf : f.isControl = true) (hg : g.isControl = false)
    (s : State) (v : Bool) : (s.setFlag g v).flag f = s.flag f := by
  have hne : f ≠ g := by
    rintro rfl
    exact Bool.false_ne_true (hg.symm.trans hf)
  rw [State.flag_setFlag, if_neg hne]

/-- DIV sets H and V, then A and Y, then N and Z (R232). -/
theorem State.divYA_eq_setReg (s : State) : s.divYA =
    ((((s.setFlag .h (divHalfCarry s.y s.x)).setFlag .v (s.ya.getLsbD 8)).setReg .a
      (divResult s.params.divZero s.ya s.x).1).setReg .y (divResult s.params.divZero s.ya s.x).2).setNZ8
      (divResult s.params.divZero s.ya s.x).1 := rfl

section
variable {f : Flag} (hf : f.isControl = true) (s : State)
include hf

@[simp] theorem State.flag_setNZ8_of_control (v : Byte) : (s.setNZ8 v).flag f = s.flag f := by simp [State.setNZ8, hf]
@[simp] theorem State.flag_setNZ16_of_control (w : Word) : (s.setNZ16 w).flag f = s.flag f := by
  simp [State.setNZ16, hf]
@[simp] theorem State.flag_aluFlags_of_control (op : Alu) (v1 v2 : Byte) : (s.aluFlags op v1 v2).flag f = s.flag f := by
  cases op <;> simp [State.aluFlags, State.adcFlags, State.sbcFlags, hf]
@[simp] theorem State.flag_cmpFlags_of_control (v1 v2 : Byte) : (s.cmpFlags v1 v2).flag f = s.flag f := by
  simp [State.cmpFlags, hf]
@[simp] theorem State.flag_rmwFlags_of_control (op : Rmw) (v : Byte) : (s.rmwFlags op v).flag f = s.flag f := by
  cases op <;> simp [State.rmwFlags, State.rmwCarry, hf]
@[simp] theorem State.flag_addwFlags_of_control (a b : Word) : (s.addwFlags a b).flag f = s.flag f := by
  simp [State.addwFlags, hf]
@[simp] theorem State.flag_subwFlags_of_control (a b : Word) : (s.subwFlags a b).flag f = s.flag f := by
  simp [State.subwFlags, hf]
@[simp] theorem State.flag_cmpwFlags_of_control (a b : Word) : (s.cmpwFlags a b).flag f = s.flag f := by
  simp [State.cmpwFlags, hf]
@[simp] theorem State.flag_aluA_of_control (op : Alu) (src : Source) : (s.aluA op src).flag f = s.flag f := by
  simp [State.aluA, hf]
@[simp] theorem State.flag_aluMem_of_control (op : Alu) (src : Source) (dst : Mode) :
    (s.aluMem op src dst).flag f = s.flag f := by simp [State.aluMem, hf]
@[simp] theorem State.flag_cmpReg_of_control (r : Reg) (src : Source) : (s.cmpReg r src).flag f = s.flag f := by
  simp [State.cmpReg, hf]
@[simp] theorem State.flag_cmpMem_of_control (src : Source) (dst : Mode) : (s.cmpMem src dst).flag f = s.flag f := by
  simp [State.cmpMem, hf]
@[simp] theorem State.flag_rmwReg_of_control (op : Rmw) (r : Reg) : (s.rmwReg op r).flag f = s.flag f := by
  simp [State.rmwReg, hf]
@[simp] theorem State.flag_rmwMem_of_control (op : Rmw) (m : Mode) : (s.rmwMem op m).flag f = s.flag f := by
  simp [State.rmwMem, hf]
@[simp] theorem State.flag_loadValue_of_control (r : Reg) (v : Byte) : (s.loadValue r v).flag f = s.flag f := by
  simp [State.loadValue, hf]
@[simp] theorem State.flag_load_of_control (r : Reg) (src : Source) : (s.load r src).flag f = s.flag f := by
  simp [State.load, hf]
@[simp] theorem State.flag_rmwWord_of_control (dd : Byte) (w : Word) : (s.rmwWord dd w).flag f = s.flag f := by
  simp [State.rmwWord, State.dpWordRead, hf]
@[simp] theorem State.flag_divYA_of_control : s.divYA.flag f = s.flag f := by simp [State.divYA_eq_setReg, hf]
@[simp] theorem State.flag_testWrite_of_control (addr : Word) (w : Byte) : (s.testWrite addr w).flag f = s.flag f := by
  simp [State.testWrite, hf]
@[simp] theorem State.flag_memBitToC_of_control (addr : BitVec 13) (v : Bool) : (s.memBitToC addr v).flag f = s.flag f := by
  simp [State.memBitToC, State.memBitRead, hf]

end

section
variable (s : State) (f : Flag)

@[simp] theorem State.dpWordRead_flag (dd : Byte) : (s.dpWordRead dd).flag f = s.flag f := by simp [State.dpWordRead]
@[simp] theorem State.store_flag (r : Reg) (m : Mode) : (s.store r m).flag f = s.flag f := by simp [State.store]
@[simp] theorem State.moveMem_flag (src : Source) (dst : Mode) : (s.moveMem src dst).flag f = s.flag f := by
  simp [State.moveMem]
@[simp] theorem State.dbnzMem_flag (dd rr : Byte) : (s.dbnzMem dd rr).flag f = s.flag f := by
  simp [State.dbnzMem, State.dbnzWrite]
@[simp] theorem State.callTo_flag (target : Word) : (s.callTo target).flag f = s.flag f := by simp [State.callTo]
@[simp] theorem State.dpBitWrite_flag (bit : Nat) (dd : Byte) (v : Bool) :
    (s.dpBitWrite bit dd v).flag f = s.flag f := by simp [State.dpBitWrite]
@[simp] theorem State.memBitWrite_flag (bit : Nat) (addr : BitVec 13) (v : Bool) :
    (s.memBitWrite bit addr v).flag f = s.flag f := by simp [State.memBitWrite, State.memBitRead]

end

/-- The instructions that write P, I or B, flag by flag (R19, R21, R22). -/
def Flag.writers (f : Flag) : List Instr :=
  match f with
  | .p => [.setp, .clrp, .popPsw, .reti]
  | .i => [.ei, .di, .brk, .popPsw, .reti]
  | .b => [.brk, .popPsw, .reti]
  | _ => []

/-- An instruction that is no writer of P, I or B keeps it: a writer is excluded by name or by the flag it writes, and every
other instruction is an operation with its lemma above. -/
theorem flag_of_exec {i : Instr} {s t : State} {f : Flag} (hf : f.isControl = true) (h : exec i s = .next t)
    (hi : i ∉ f.writers) : t.flag f = s.flag f := by
  cases i with
  | popPsw | reti => cases f <;> simp [Flag.writers] at hf hi
  | brk | setp | clrp | ei | di =>
    obtain rfl := Host.Outcome.next.inj h
    cases f <;> simp [Flag.writers, State.takeTrap, State.flag_setFlag] at hf hi ⊢
  | movSpX =>
    obtain rfl := Host.Outcome.next.inj h
    rfl
  | dbnzY rr =>
    obtain rfl := Host.Outcome.next.inj h
    exact State.branchIf_flag _ _ _ _
  | daa | das =>
    obtain rfl := Host.Outcome.next.inj h
    split <;> simp [hf]
  | _ =>
    obtain rfl := Host.Outcome.next.inj h
    simp [hf]

/-! ## SP -/

section
variable (s : State)

@[simp] theorem State.aluA_sp (op : Alu) (src : Source) : (s.aluA op src).sp = s.sp := by rw [State.aluA_eq]
@[simp] theorem State.aluMem_sp (op : Alu) (src : Source) (dst : Mode) : (s.aluMem op src dst).sp = s.sp := by
  rw [State.aluMem_eq]
@[simp] theorem State.cmpReg_sp (r : Reg) (src : Source) : (s.cmpReg r src).sp = s.sp := by rw [State.cmpReg_eq]
@[simp] theorem State.cmpMem_sp (src : Source) (dst : Mode) : (s.cmpMem src dst).sp = s.sp := by rw [State.cmpMem_eq]
@[simp] theorem State.rmwReg_sp (op : Rmw) (r : Reg) : (s.rmwReg op r).sp = s.sp := by rw [State.rmwReg_eq]
@[simp] theorem State.rmwMem_sp (op : Rmw) (m : Mode) : (s.rmwMem op m).sp = s.sp := by rw [State.rmwMem_eq]
@[simp] theorem State.loadValue_sp (r : Reg) (v : Byte) : (s.loadValue r v).sp = s.sp := by simp [State.loadValue]
@[simp] theorem State.load_sp (r : Reg) (src : Source) : (s.load r src).sp = s.sp := by rw [State.load_eq]
@[simp] theorem State.store_sp (r : Reg) (m : Mode) : (s.store r m).sp = s.sp := by rw [State.store_eq]
@[simp] theorem State.moveMem_sp (src : Source) (dst : Mode) : (s.moveMem src dst).sp = s.sp := by
  rw [State.moveMem_eq]
@[simp] theorem State.dpWordRead_sp (dd : Byte) : (s.dpWordRead dd).sp = s.sp := by simp [State.dpWordRead]
@[simp] theorem State.rmwWord_sp (dd : Byte) (w : Word) : (s.rmwWord dd w).sp = s.sp := by rw [State.rmwWord_eq]
@[simp] theorem State.divYA_sp : s.divYA.sp = s.sp := by rw [State.divYA_eq]
@[simp] theorem State.dbnzMem_sp (dd rr : Byte) : (s.dbnzMem dd rr).sp = s.sp := by
  simp [State.dbnzMem, State.dbnzWrite]
@[simp] theorem State.dpBitWrite_sp (bit : Nat) (dd : Byte) (v : Bool) : (s.dpBitWrite bit dd v).sp = s.sp := by
  rw [State.dpBitWrite_eq]
@[simp] theorem State.testWrite_sp (addr : Word) (w : Byte) : (s.testWrite addr w).sp = s.sp := by
  rw [State.testWrite_eq]
@[simp] theorem State.memBitToC_sp (addr : BitVec 13) (v : Bool) : (s.memBitToC addr v).sp = s.sp := by
  rw [State.memBitToC_eq]
@[simp] theorem State.memBitWrite_sp (bit : Nat) (addr : BitVec 13) (v : Bool) :
    (s.memBitWrite bit addr v).sp = s.sp := by rw [State.memBitWrite_eq]

end

/-- The instructions without operands that write SP (R14, R31). The calls write it too. -/
def spWriters : List Instr :=
  [.pushA, .pushX, .pushY, .pushPsw, .popA, .popX, .popY, .popPsw, .brk, .ret, .reti, .movSpX]

/-- An instruction that is none of the named ones and no call keeps SP. -/
theorem sp_of_exec {i : Instr} {s t : State} (h : exec i s = .next t) (hi : i ∉ spWriters)
    (hcall : ∀ addr, i ≠ .call addr) (hpcall : ∀ uu, i ≠ .pcall uu) (htcall : ∀ n, i ≠ .tcall n) : t.sp = s.sp := by
  cases i with
  | pushA | pushX | pushY | pushPsw | popA | popX | popY | popPsw | brk | ret | reti | movSpX => simp [spWriters] at hi
  | call addr => exact absurd rfl (hcall addr)
  | pcall uu => exact absurd rfl (hpcall uu)
  | tcall n => exact absurd rfl (htcall n)
  | daa | das =>
    obtain rfl := Host.Outcome.next.inj h
    split <;> simp
  | _ =>
    obtain rfl := Host.Outcome.next.inj h
    simp

/-- Settles O19: a flag at a time, then SP. -/
theorem flagsAndStackPointerHaveFewWriters : Obligations.FlagsAndStackPointerHaveFewWriters :=
  fun _ _ _ h => ⟨flag_of_exec (f := .p) rfl h, flag_of_exec (f := .i) rfl h, flag_of_exec (f := .b) rfl h, sp_of_exec h⟩

/-! ## The I flag

Every operation but a push of PSW commutes with a write of I: it neither reads the flag nor, unless it overwrites it, writes
it. The lemmas move the write outwards. -/

/-- Of two writes of one flag the second counts. -/
@[simp] theorem State.setFlag_setFlag (s : State) (f : Flag) (v w : Bool) :
    (s.setFlag f v).setFlag f w = s.setFlag f w := by
  have hpsw : ((s.setFlag f v).setFlag f w).psw = (s.setFlag f w).psw := psw_ext fun g => by
    change ((s.setFlag f v).setFlag f w).flag g = (s.setFlag f w).flag g
    simp only [State.flag_setFlag]
    split <;> rfl
  exact State.ext rfl rfl rfl rfl hpsw rfl rfl rfl rfl

/-- Writes of two flags commute. -/
theorem State.setFlag_comm (s : State) {f g : Flag} (hne : g ≠ f) (v w : Bool) :
    (s.setFlag f v).setFlag g w = (s.setFlag g w).setFlag f v := by
  have hpsw : ((s.setFlag f v).setFlag g w).psw = ((s.setFlag g w).setFlag f v).psw := psw_ext fun k => by
    change ((s.setFlag f v).setFlag g w).flag k = ((s.setFlag g w).setFlag f v).flag k
    simp only [State.flag_setFlag]
    by_cases hk : k = g
    · subst hk
      simp [hne]
    · simp [hk]
  exact State.ext rfl rfl rfl rfl hpsw rfl rfl rfl rfl

/-- Reading another flag than I. -/
@[simp] theorem State.flag_setFlag_i (s : State) (v : Bool) {g : Flag} (hg : g ≠ .i) :
    (s.setFlag .i v).flag g = s.flag g := by
  rw [State.flag_setFlag, if_neg hg]

/-- Writing another flag than I. -/
@[simp] theorem State.setFlag_setFlag_i (s : State) (v w : Bool) {g : Flag} (hg : g ≠ .i) :
    (s.setFlag .i v).setFlag g w = (s.setFlag g w).setFlag .i v := s.setFlag_comm hg v w

section
variable (s : State) (v : Bool)

/-! ### Values -/

@[simp] theorem State.dp_setFlag_i (d : Byte) : (s.setFlag .i v).dp d = s.dp d := by simp [State.dp]
@[simp] theorem State.ea_setFlag_i (m : Mode) : (s.setFlag .i v).ea m = s.ea m := by cases m <;> simp [State.ea]
@[simp] theorem State.modeValue_setFlag_i (m : Mode) : (s.setFlag .i v).modeValue m = s.modeValue m := by
  simp [State.modeValue]
@[simp] theorem State.sourceValue_setFlag_i (src : Source) : (s.setFlag .i v).sourceValue src = s.sourceValue src := by
  cases src <;> simp [State.sourceValue]
@[simp] theorem State.aluResult_setFlag_i (op : Alu) (v1 v2 : Byte) :
    (s.setFlag .i v).aluResult op v1 v2 = s.aluResult op v1 v2 := by cases op <;> simp [State.aluResult]
@[simp] theorem State.rmwResult_setFlag_i (op : Rmw) (b : Byte) : (s.setFlag .i v).rmwResult op b = s.rmwResult op b := by
  cases op <;> simp [State.rmwResult]
@[simp] theorem State.ya_setFlag_i : (s.setFlag .i v).ya = s.ya := rfl
@[simp] theorem State.dpWord_setFlag_i (dd : Byte) : (s.setFlag .i v).dpWord dd = s.dpWord dd := by simp [State.dpWord]
@[simp] theorem State.memBitByte_setFlag_i (addr : BitVec 13) : (s.setFlag .i v).memBitByte addr = s.memBitByte addr := rfl
@[simp] theorem State.memBit_setFlag_i (bit : Nat) (addr : BitVec 13) :
    (s.setFlag .i v).memBit bit addr = s.memBit bit addr := rfl
@[simp] theorem State.pop8Value_setFlag_i : (s.setFlag .i v).pop8Value = s.pop8Value := rfl
@[simp] theorem State.dbnzValue_setFlag_i (dd : Byte) : (s.setFlag .i v).dbnzValue dd = s.dbnzValue dd := by
  simp [State.dbnzValue]

/-! ### Memory, registers and the instruction stream -/

@[simp] theorem State.touch_setFlag_i (k : Nat) : (s.setFlag .i v).touch k = (s.touch k).setFlag .i v := rfl
@[simp] theorem State.touchWord_setFlag_i (k : Nat) : (s.setFlag .i v).touchWord k = (s.touchWord k).setFlag .i v := rfl
@[simp] theorem State.memWrite_setFlag_i (k : Nat) (b : Byte) :
    (s.setFlag .i v).memWrite k b = (s.memWrite k b).setFlag .i v := rfl
@[simp] theorem State.writeWord_setFlag_i (k : Nat) (w : Word) :
    (s.setFlag .i v).writeWord k w = (s.writeWord k w).setFlag .i v := rfl
@[simp] theorem State.setReg_setFlag_i (r : Reg) (b : Byte) :
    (s.setFlag .i v).setReg r b = (s.setReg r b).setFlag .i v := by cases r <;> rfl
@[simp] theorem State.setYA_setFlag_i (w : Word) : (s.setFlag .i v).setYA w = (s.setYA w).setFlag .i v := rfl
@[simp] theorem State.incX_setFlag_i : (s.setFlag .i v).incX = s.incX.setFlag .i v := rfl
@[simp] theorem State.fetch8_setFlag_i : (s.setFlag .i v).fetch8 = s.fetch8.setFlag .i v := rfl
@[simp] theorem State.fetch16_setFlag_i : (s.setFlag .i v).fetch16 = s.fetch16.setFlag .i v := rfl
@[simp] theorem State.jump_setFlag_i (w : Word) : (s.setFlag .i v).jump w = (s.jump w).setFlag .i v := rfl
@[simp] theorem State.jumpVector_setFlag_i (k : Nat) :
    (s.setFlag .i v).jumpVector k = (s.jumpVector k).setFlag .i v := rfl
@[simp] theorem State.branchIf_setFlag_i (taken : Bool) (rr : Byte) :
    (s.setFlag .i v).branchIf taken rr = (s.branchIf taken rr).setFlag .i v := by cases taken <;> rfl
@[simp] theorem State.enter_setFlag_i (m : Mode) : (s.setFlag .i v).enter m = (s.enter m).setFlag .i v := by
  cases m <;> simp [State.enter]
@[simp] theorem State.modeRead_setFlag_i (m : Mode) : (s.setFlag .i v).modeRead m = (s.modeRead m).setFlag .i v := by
  simp [State.modeRead]
@[simp] theorem State.sourceRead_setFlag_i (src : Source) :
    (s.setFlag .i v).sourceRead src = (s.sourceRead src).setFlag .i v := by cases src <;> simp [State.sourceRead]
@[simp] theorem State.dpWordRead_setFlag_i (dd : Byte) :
    (s.setFlag .i v).dpWordRead dd = (s.dpWordRead dd).setFlag .i v := by simp [State.dpWordRead]
@[simp] theorem State.memBitRead_setFlag_i (addr : BitVec 13) :
    (s.setFlag .i v).memBitRead addr = (s.memBitRead addr).setFlag .i v := rfl

/-! ### The stack -/

@[simp] theorem State.push8_setFlag_i (b : Byte) : (s.setFlag .i v).push8 b = (s.push8 b).setFlag .i v := by
  cases hd : s.params.stackDiscipline <;> simp only [State.push8, State.setFlag_params, hd] <;> rfl
@[simp] theorem State.pushPC_setFlag_i : (s.setFlag .i v).pushPC = s.pushPC.setFlag .i v := by
  cases hd : s.params.stackDiscipline <;> simp [State.pushPC, hd]
@[simp] theorem State.pop8_setFlag_i : (s.setFlag .i v).pop8 = s.pop8.setFlag .i v := rfl
@[simp] theorem State.popPC_setFlag_i : (s.setFlag .i v).popPC = s.popPC.setFlag .i v := rfl
@[simp] theorem State.callTo_setFlag_i (target : Word) :
    (s.setFlag .i v).callTo target = (s.callTo target).setFlag .i v := by simp [State.callTo]

/-! ### Flags -/

@[simp] theorem State.setNZ8_setFlag_i (b : Byte) : (s.setFlag .i v).setNZ8 b = (s.setNZ8 b).setFlag .i v := by
  simp [State.setNZ8]
@[simp] theorem State.setNZ16_setFlag_i (w : Word) : (s.setFlag .i v).setNZ16 w = (s.setNZ16 w).setFlag .i v := by
  simp [State.setNZ16]
@[simp] theorem State.aluFlags_setFlag_i (op : Alu) (v1 v2 : Byte) :
    (s.setFlag .i v).aluFlags op v1 v2 = (s.aluFlags op v1 v2).setFlag .i v := by
  cases op <;> simp [State.aluFlags, State.adcFlags, State.sbcFlags]
@[simp] theorem State.cmpFlags_setFlag_i (v1 v2 : Byte) :
    (s.setFlag .i v).cmpFlags v1 v2 = (s.cmpFlags v1 v2).setFlag .i v := by simp [State.cmpFlags]
@[simp] theorem State.rmwFlags_setFlag_i (op : Rmw) (b : Byte) :
    (s.setFlag .i v).rmwFlags op b = (s.rmwFlags op b).setFlag .i v := by
  cases op <;> simp [State.rmwFlags, State.rmwCarry]
@[simp] theorem State.addwFlags_setFlag_i (a b : Word) :
    (s.setFlag .i v).addwFlags a b = (s.addwFlags a b).setFlag .i v := by simp [State.addwFlags]
@[simp] theorem State.subwFlags_setFlag_i (a b : Word) :
    (s.setFlag .i v).subwFlags a b = (s.subwFlags a b).setFlag .i v := by simp [State.subwFlags]
@[simp] theorem State.cmpwFlags_setFlag_i (a b : Word) :
    (s.setFlag .i v).cmpwFlags a b = (s.cmpwFlags a b).setFlag .i v := by simp [State.cmpwFlags]

/-! ### The operations that instructions are one line over -/

@[simp] theorem State.aluA_setFlag_i (op : Alu) (src : Source) :
    (s.setFlag .i v).aluA op src = (s.aluA op src).setFlag .i v := by simp [State.aluA]
@[simp] theorem State.aluMem_setFlag_i (op : Alu) (src : Source) (dst : Mode) :
    (s.setFlag .i v).aluMem op src dst = (s.aluMem op src dst).setFlag .i v := by simp [State.aluMem]
@[simp] theorem State.cmpReg_setFlag_i (r : Reg) (src : Source) :
    (s.setFlag .i v).cmpReg r src = (s.cmpReg r src).setFlag .i v := by simp [State.cmpReg]
@[simp] theorem State.cmpMem_setFlag_i (src : Source) (dst : Mode) :
    (s.setFlag .i v).cmpMem src dst = (s.cmpMem src dst).setFlag .i v := by simp [State.cmpMem]
@[simp] theorem State.rmwReg_setFlag_i (op : Rmw) (r : Reg) :
    (s.setFlag .i v).rmwReg op r = (s.rmwReg op r).setFlag .i v := by simp [State.rmwReg]
@[simp] theorem State.rmwMem_setFlag_i (op : Rmw) (m : Mode) :
    (s.setFlag .i v).rmwMem op m = (s.rmwMem op m).setFlag .i v := by simp [State.rmwMem]
@[simp] theorem State.loadValue_setFlag_i (r : Reg) (b : Byte) :
    (s.setFlag .i v).loadValue r b = (s.loadValue r b).setFlag .i v := by simp [State.loadValue]
@[simp] theorem State.load_setFlag_i (r : Reg) (src : Source) :
    (s.setFlag .i v).load r src = (s.load r src).setFlag .i v := by simp [State.load]
@[simp] theorem State.store_setFlag_i (r : Reg) (m : Mode) :
    (s.setFlag .i v).store r m = (s.store r m).setFlag .i v := by simp [State.store]
@[simp] theorem State.moveMem_setFlag_i (src : Source) (dst : Mode) :
    (s.setFlag .i v).moveMem src dst = (s.moveMem src dst).setFlag .i v := by simp [State.moveMem]
@[simp] theorem State.rmwWord_setFlag_i (dd : Byte) (w : Word) :
    (s.setFlag .i v).rmwWord dd w = (s.rmwWord dd w).setFlag .i v := by simp [State.rmwWord]
@[simp] theorem State.dbnzWrite_setFlag_i (dd : Byte) :
    (s.setFlag .i v).dbnzWrite dd = (s.dbnzWrite dd).setFlag .i v := by simp [State.dbnzWrite]
@[simp] theorem State.dbnzMem_setFlag_i (dd rr : Byte) :
    (s.setFlag .i v).dbnzMem dd rr = (s.dbnzMem dd rr).setFlag .i v := by
  simp [State.dbnzMem, State.dbnzDisplacement]
@[simp] theorem State.dpBitWrite_setFlag_i (bit : Nat) (dd : Byte) (b : Bool) :
    (s.setFlag .i v).dpBitWrite bit dd b = (s.dpBitWrite bit dd b).setFlag .i v := by simp [State.dpBitWrite]
@[simp] theorem State.testWrite_setFlag_i (addr : Word) (w : Byte) :
    (s.setFlag .i v).testWrite addr w = (s.testWrite addr w).setFlag .i v := by simp [State.testWrite]
@[simp] theorem State.memBitToC_setFlag_i (addr : BitVec 13) (b : Bool) :
    (s.setFlag .i v).memBitToC addr b = (s.memBitToC addr b).setFlag .i v := by simp [State.memBitToC]
@[simp] theorem State.memBitWrite_setFlag_i (bit : Nat) (addr : BitVec 13) (b : Bool) :
    (s.setFlag .i v).memBitWrite bit addr b = (s.memBitWrite bit addr b).setFlag .i v := by simp [State.memBitWrite]

@[simp] theorem State.divYA_setFlag_i : (s.setFlag .i v).divYA = s.divYA.setFlag .i v := by
  simp [State.divYA_eq_setReg]

/-- A choice between two writes of I is a write of I after the choice (DAA, DAS). -/
@[simp] theorem State.ite_setFlag_i (p : Prop) [Decidable p] (t : State) :
    (if p then s.setFlag .i v else t.setFlag .i v) = (if p then s else t).setFlag .i v := by
  split <;> rfl

end

/-- An instruction that neither pushes PSW nor writes I commutes with a write of I. -/
theorem exec_setFlag_i {i : Instr} (hi : i ∉ [Instr.pushPsw, .brk, .ei, .di, .popPsw, .reti]) (s : State) (v : Bool) :
    ∃ t, exec i s = .next t ∧ exec i (s.setFlag .i v) = .next (t.setFlag .i v) := by
  cases i with
  | pushPsw | brk | ei | di | popPsw | reti => simp at hi
  | movSpX => exact ⟨_, rfl, rfl⟩
  | dbnzY rr => exact ⟨_, rfl, congrArg Host.Outcome.next (State.branchIf_setFlag_i { s with y := s.y - 1 } v _ _)⟩
  | _ => exact ⟨_, rfl, congrArg Host.Outcome.next (by simp)⟩

/-- Settles O20: an instruction either commutes with the write of I or overwrites I. -/
theorem interruptFlagInfluencesNothing : Obligations.InterruptFlagInfluencesNothing := by
  intro i s v hpush hbrk
  by_cases hi : i ∈ [Instr.ei, .di, .popPsw, .reti]
  · simp only [List.mem_cons, List.not_mem_nil, or_false] at hi
    rcases hi with rfl | rfl | rfl | rfl
    · exact ⟨_, _, rfl, rfl, by simp⟩
    · exact ⟨_, _, rfl, rfl, by simp⟩
    · exact ⟨_, _, rfl, rfl, rfl⟩
    · exact ⟨_, _, rfl, rfl, rfl⟩
  · obtain ⟨t, ht, ht'⟩ := exec_setFlag_i (i := i) (by simp_all) s v
    exact ⟨t, _, ht, ht', t.setFlag_setFlag .i v false⟩

end Sys2Proof.Machine

/-! PROOFS. Memory (spec/20_memory.md): the byte and word accesses, the canonical form, and the one instruction that
reads its stream after its own store, `DBNZ dp, rel`. -/

namespace Sys2Proof.Machine

/-! ## The bytes of a word (R8) -/

theorem lowByte_eq (w : Word) : lowByte w = BitVec.ofNat 8 w.toNat := by
  apply BitVec.eq_of_toNat_eq; simp [lowByte]

theorem highByte_eq (w : Word) : highByte w = BitVec.ofNat 8 (w.toNat / 0x100) := by
  apply BitVec.eq_of_toNat_eq; simp [highByte, Nat.shiftRight_eq_div_pow]

theorem wordOf_toNat (hi lo : Byte) : (wordOf hi lo).toNat = 0x100 * hi.toNat + lo.toNat :=
  operandWord_toNat lo hi

@[simp] theorem wordOf_highByte_lowByte (w : Word) : wordOf (highByte w) (lowByte w) = w :=
  operandWord_bytes w

/-! ## Byte and word accesses (R35 to R38) -/

theorem State.touch_eq (s : State) (addr : Nat) : s.touch addr = { s with lastAddr := addr } := rfl

/-- MemWrite changes memory and `last_addr`. -/
theorem State.memWrite_eq (s : State) (addr : Nat) (v : Byte) :
    s.memWrite addr v = { s with mem := (s.memWrite addr v).mem, lastAddr := addr } := rfl

/-- WriteWord changes memory and `last_addr`. -/
theorem State.writeWord_eq (s : State) (addr : Nat) (w : Word) :
    s.writeWord addr w = { s with mem := (s.writeWord addr w).mem, lastAddr := s.highByteAddr addr } := rfl

/-- Settles O3: `peek` splits at 0xFFFF, and `touch` is the update of one field. -/
theorem memReadReturnsByteOrZero : Obligations.MemReadReturnsByteOrZero :=
  fun s addr => ⟨fun h => if_pos h, s.peek_high, s.touch_eq addr⟩

/-- Settles O4: from the rule for a read after MemWrite. -/
theorem memWriteStoresOneByte : Obligations.MemWriteStoresOneByte :=
  fun s addr v => ⟨s.memWrite_eq addr v, fun k => s.peek_memWrite addr k v, fun h => if_neg (Nat.not_le.mpr h)⟩

/-- The number ReadWord answers (R37). -/
theorem State.peekWord_toNat (s : State) (addr : Nat) :
    (s.peekWord addr).toNat = 0x100 * (s.peek (addr + 1)).toNat + (s.peek addr).toNat :=
  wordOf_toNat _ _

/-- Settles O5: the high byte at 0xFFFF is the 0 that address 0x10000 reads. -/
theorem readWordIsLittleEndianWithoutWrap : Obligations.ReadWordIsLittleEndianWithoutWrap := by
  intro s
  refine ⟨fun addr => ⟨s.peekWord_toNat addr, rfl⟩, ?_⟩
  rw [s.peekWord_toNat, s.peek_high (by decide : 0xFFFF < 0xFFFF + 1)]
  simp

theorem State.highByteAddr_split {s : State} (h : s.params.writeWordMode = .split) (addr : Nat) :
    s.highByteAddr addr = addr + 1 := by simp [State.highByteAddr, h]

theorem State.highByteAddr_sameAddress {s : State} (h : s.params.writeWordMode = .sameAddress) (addr : Nat) :
    s.highByteAddr addr = addr := by simp [State.highByteAddr, h]

/-- What reads in the 64 KiB after WriteWord: its high byte is written last. -/
theorem State.peek_writeWord_inRange (s : State) (addr : Nat) (w : Word) {k : Nat} (hk : k ≤ 0xFFFF) :
    (s.writeWord addr w).peek k =
      if k = s.highByteAddr addr then highByte w else if k = addr then lowByte w else s.peek k := by
  have inRange : ∀ a, (k = a ∧ a ≤ 0xFFFF) ↔ k = a := fun a => and_iff_left_of_imp fun h => h ▸ hk
  simp only [State.peek_writeWord, inRange]

/-- What reads after WriteWord where the high byte goes to the next address. -/
theorem State.peek_writeWord_split {s : State} (h : s.params.writeWordMode = .split) (addr : Nat) (w : Word) (k : Nat) :
    (s.writeWord addr w).peek k =
      if 0xFFFF < k then 0
      else if k = addr then lowByte w
      else if k = addr + 1 then highByte w
      else s.peek k := by
  by_cases hk : 0xFFFF < k
  · rw [if_pos hk, State.peek_high _ hk]
  · rw [if_neg hk, s.peek_writeWord_inRange addr w (Nat.not_lt.mp hk), State.highByteAddr_split h]
    by_cases hlow : k = addr
    · simp [hlow]
    · simp [hlow]

/-- What reads after WriteWord where the high byte goes over the low one. -/
theorem State.peek_writeWord_sameAddress {s : State} (h : s.params.writeWordMode = .sameAddress) (addr : Nat) (w : Word)
    (k : Nat) :
    (s.writeWord addr w).peek k = if 0xFFFF < k then 0 else if k = addr then highByte w else s.peek k := by
  by_cases hk : 0xFFFF < k
  · rw [if_pos hk, State.peek_high _ hk]
  · rw [if_neg hk, s.peek_writeWord_inRange addr w (Nat.not_lt.mp hk), State.highByteAddr_sameAddress h]
    by_cases hsame : k = addr
    · simp [hsame]
    · simp [hsame]

/-- A word written below 0xFFFF, its high byte at the next address, reads back. -/
theorem State.peekWord_writeWord_split {s : State} (h : s.params.writeWordMode = .split) {addr : Nat} (w : Word)
    (ha : addr < 0xFFFF) : (s.writeWord addr w).peekWord addr = w := by
  have hlo : ¬ 0xFFFF < addr := by omega
  have hhi : ¬ 0xFFFF < addr + 1 := by omega
  simp [State.peekWord, State.peek_writeWord_split h, hlo, hhi]

/-- Settles O6: a mode at a time. -/
theorem writeWordFollowsItsMode : Obligations.WriteWordFollowsItsMode := by
  intro s addr w
  simp only [← lowByte_eq, ← highByte_eq]
  constructor
  · intro h
    exact ⟨(s.writeWord_eq addr w).trans (by rw [State.highByteAddr_split h]), State.peek_writeWord_split h addr w,
      State.peekWord_writeWord_split h w⟩
  · intro h
    exact ⟨(s.writeWord_eq addr w).trans (by rw [State.highByteAddr_sameAddress h]),
      State.peek_writeWord_sameAddress h addr w⟩

/-! ## The canonical form (R34) -/

theorem Memory.byteAt_cons (c : Host.Cell) (cs : Memory) (k : Nat) :
    Memory.byteAt (c :: cs) k = if c.1 = k then c.2 else cs.byteAt k := rfl

theorem Memory.above_cons (k : Nat) (c : Host.Cell) (cs : Memory) :
    Memory.above k (c :: cs) = true ↔ k < c.1 ∧ Memory.above k cs = true := by
  simp only [Memory.above, List.all_cons, Bool.and_eq_true, decide_eq_true_eq]

/-- An address below every listed one reads as unlisted. -/
theorem Memory.byteAt_of_above {k : Nat} {m : Memory} (h : Memory.above k m = true) :
    m.byteAt k = Memory.unlisted := by
  induction m with
  | nil => rfl
  | cons c cs ih =>
    obtain ⟨hc, hcs⟩ := (Memory.above_cons k c cs).mp h
    rw [Memory.byteAt_cons, if_neg (by omega), ih hcs]

/-- The first address of a canonical memory is not below every address of a memory that reads alike. -/
theorem Memory.not_above_head {c : Host.Cell} {cs m : Memory} (hwf : Memory.wf (c :: cs) = true)
    (hread : ∀ k, k ≤ 0xFFFF → Memory.byteAt (c :: cs) k = m.byteAt k) : ¬ Memory.above c.1 m = true := by
  intro habove
  obtain ⟨hle, hlisted, -, -⟩ := (Memory.wf_cons c cs).mp hwf
  have hc := hread c.1 hle
  rw [Memory.byteAt_cons, if_pos rfl, Memory.byteAt_of_above habove] at hc
  exact hlisted hc

/-- An address below the head of a canonical memory is below all of it. -/
theorem Memory.above_of_lt_head {k : Nat} {d : Host.Cell} {ds : Memory} (hwf : Memory.wf (d :: ds) = true)
    (h : k < d.1) : Memory.above k (d :: ds) = true := by
  obtain ⟨-, -, habove, -⟩ := (Memory.wf_cons d ds).mp hwf
  exact (Memory.above_cons k d ds).mpr ⟨h, Memory.above_mono (Nat.le_of_lt h) habove⟩

/-- Canonical memories that read alike have their first cell in common. -/
theorem Memory.head_eq {c d : Host.Cell} {cs ds : Memory} (hc : Memory.wf (c :: cs) = true)
    (hd : Memory.wf (d :: ds) = true)
    (hread : ∀ k, k ≤ 0xFFFF → Memory.byteAt (c :: cs) k = Memory.byteAt (d :: ds) k) : c = d := by
  have haddr : c.1 = d.1 := by
    rcases Nat.lt_trichotomy c.1 d.1 with hlt | heq | hlt
    · exact absurd (Memory.above_of_lt_head hd hlt) (Memory.not_above_head hc hread)
    · exact heq
    · exact absurd (Memory.above_of_lt_head hc hlt) (Memory.not_above_head hd fun k hk => (hread k hk).symm)
  have hbyte := hread c.1 ((Memory.wf_cons c cs).mp hc).1
  rw [Memory.byteAt_cons, Memory.byteAt_cons, if_pos rfl, if_pos haddr.symm] at hbyte
  exact Prod.ext haddr hbyte

/-- Settles O7, by induction on one memory: the first cells are equal, and the rests read alike, at the address of the
first cell because both rests lie above it. -/
theorem canonicalMemoryIsUnique : Obligations.CanonicalMemoryIsUnique := by
  intro m
  induction m with
  | nil =>
    intro m' _ hwf' hread
    cases m' with
    | nil => rfl
    | cons d ds => exact absurd rfl (Memory.not_above_head hwf' fun k hk => (hread k hk).symm)
  | cons c cs ih =>
    intro m' hwf hwf' hread
    cases m' with
    | nil => exact absurd rfl (Memory.not_above_head hwf hread)
    | cons d ds =>
      obtain rfl := Memory.head_eq hwf hwf' hread
      obtain ⟨-, -, hcs, hwfcs⟩ := (Memory.wf_cons c cs).mp hwf
      obtain ⟨-, -, hds, hwfds⟩ := (Memory.wf_cons c ds).mp hwf'
      refine congrArg (c :: ·) (ih ds hwfcs hwfds fun k hk => ?_)
      by_cases hck : c.1 = k
      · subst hck
        rw [Memory.byteAt_of_above hcs, Memory.byteAt_of_above hds]
      · simpa only [Memory.byteAt_cons, if_neg hck] using hread k hk

/-! ## `DBNZ dp, rel` (R248, R359) -/

/-- The decremented byte, on numbers. -/
theorem State.dbnzValue_eq (s : State) (dd : Byte) :
    s.dbnzValue dd = BitVec.ofNat 8 ((s.peek (s.dp dd).toNat).toNat + 0xFF) := by
  rw [BitVec.ofNat_add, BitVec.ofNat_toNat, BitVec.setWidth_eq]
  exact BitVec.sub_eq_add_neg _ _

/-- What reads after the store of DBNZ. -/
theorem State.peek_dbnzWrite (s : State) (dd : Byte) : Stored s (s.dbnzWrite dd) (s.dp dd).toNat (s.dbnzValue dd) := by
  intro k
  rw [State.dbnzWrite, State.peek_memWrite_word, State.modeRead_peek]

/-- The displacement is the decremented byte where `DP(d)` is the address after the offset byte. -/
theorem State.dbnzDisplacement_eq (s : State) (dd rr : Byte) :
    s.dbnzDisplacement dd rr = if s.dp dd = s.pcAfter 1 then s.dbnzValue dd else rr := by
  simp [State.dbnzDisplacement, State.dbnzWrite, State.enter, eq_comm]

/-- Where memory holds the encoded displacement, the displacement used is the byte that is there after the store. -/
theorem State.dbnzDisplacement_eq_peek {s : State} (dd : Byte) {rr : Byte} (h : s.peek (s.pcAfter 1).toNat = rr) :
    s.dbnzDisplacement dd rr = (s.dbnzWrite dd).peek (s.pcAfter 1).toNat := by
  rw [State.dbnzDisplacement_eq, s.peek_dbnzWrite dd, h]
  simp only [← BitVec.toNat_inj, eq_comm]

/-- `DBNZ dp, rel` changes one byte of memory, PC and `last_addr`. -/
theorem State.dbnzMem_eq (s : State) (dd rr : Byte) :
    s.dbnzMem dd rr = { s with
      pc := if s.dbnzValue dd ≠ 0 then s.target 2 (s.dbnzDisplacement dd rr) else s.pcAfter 2
      lastAddr := (s.pcAfter 1).toNat, mem := (s.dbnzMem dd rr).mem } := by
  apply State.ext <;> simp [State.dbnzMem, State.dbnzWrite, State.enter, State.target_eq]

/-- Settles O48: the store, then the branch, whose displacement is the byte memory holds after the store. -/
theorem dbnzMemoryFetchesAfterItsStore : Obligations.DbnzMemoryFetchesAfterItsStore := by
  intro dd rr s v hv
  rw [← s.dbnzValue_eq] at hv
  subst hv
  have hpeek : ∀ k, (s.dbnzMem dd rr).peek k = (s.dbnzWrite dd).peek k := State.branchIf_peek _ _ _
  refine ⟨s.dbnzMem dd rr, rfl, ?_, fun k => (hpeek k).trans (s.peek_dbnzWrite dd k), fun hrr hne => ?_⟩
  · rw [← s.dbnzDisplacement_eq dd rr]
    exact s.dbnzMem_eq dd rr
  · rw [hpeek, ← State.dbnzDisplacement_eq_peek dd hrr, s.dbnzMem_eq dd rr]
    exact if_pos hne

end Sys2Proof.Machine

/-! PROOFS. Decoder and encoder (spec/30_encoding.md R50 to R82), and the step that decodes the bytes at PC (R81, R86).
Each direction of the round trip is one case split: over the rows of the opcode table for "decoded bytes encode back"
(`opcodeRows_faithful`), over the constructors of `Instr` for "encoded instructions decode back"
(`decodeBytes_encode`). -/

namespace Sys2Proof

/-! ## Opcode bytes that hold an operand (R78, R79) -/

/-- The pattern and the bit number of an opcode byte are all of it (R78). -/
theorem encodeBitOp_opcodeBit (op : Byte) : encodeBitOp (op &&& 0x1F) (opcodeBit op) = op := by
  revert op; decide +kernel

/-- The pattern and the index of a TCALL opcode byte are all of it (R79). -/
theorem tcallOp_opcodeIndex (op : Byte) : (op &&& 0x0F) ||| BitVec.ofNat 8 (16 * opcodeIndex op) = op := by
  revert op; decide +kernel

/-! ## Every row of the opcode table encodes back to the bytes it reads -/

/-- Whatever bytes a row reads its instruction from, the instruction is well formed, and its encoding is as many of them
as the row is long. -/
def Row.Faithful (r : Row) : Prop :=
  ∀ op b1 b2, r.selects op = true →
    (r.build op b1 b2).WellFormed ∧ encode (r.build op b1 b2) = [op, b1, b2].take r.length

/-- A row that selects one opcode byte only is to be checked at that byte. -/
theorem Row.Faithful.of_opcode {r : Row} (hr : r.mask = 0xFF)
    (h : ∀ b1 b2, (r.build r.pattern b1 b2).WellFormed ∧
      encode (r.build r.pattern b1 b2) = [r.pattern, b1, b2].take r.length) : r.Faithful := by
  intro op b1 b2 hop
  have hp : op &&& 0xFF = r.pattern := by
    rw [← hr]
    exact eq_of_beq hop
  obtain rfl : op = r.pattern := (BitVec.and_allOnes (x := op)).symm.trans hp
  exact h b1 b2

/-- A row whose operands are the bytes after the opcode byte, or that has none. -/
theorem Row.Faithful.bytes {p : Byte} {len : Nat} {build : Byte → Byte → Instr}
    (hwf : ∀ b1 b2, (build b1 b2).WellFormed := by exact fun _ _ => rfl)
    (henc : ∀ b1 b2, encode (build b1 b2) = [p, b1, b2].take len := by exact fun _ _ => rfl) :
    Row.Faithful ⟨p, 0xFF, len, fun _ b1 b2 => build b1 b2⟩ :=
  .of_opcode rfl fun b1 b2 => ⟨hwf b1 b2, henc b1 b2⟩

/-- A row with an operand word (R75, R76). -/
theorem Row.Faithful.word {p : Byte} {build : Word → Instr}
    (hwf : ∀ w, (build w).WellFormed := by exact fun _ => rfl)
    (henc : ∀ w, encode (build w) = p :: encodeWord w := by exact fun _ => rfl) :
    Row.Faithful ⟨p, 0xFF, 3, fun _ b1 b2 => build (operandWord b1 b2)⟩ :=
  .of_opcode rfl fun b1 b2 => ⟨hwf _, by rw [henc, encodeWord_operandWord]; rfl⟩

/-- A row with a mem.bit operand word (R77). -/
theorem Row.Faithful.memBit {p : Byte} {build : Nat → BitVec 13 → Instr}
    (hwf : ∀ bit addr, wellFormed (build bit addr) = bitOk bit := by exact fun _ _ => rfl)
    (henc : ∀ bit addr, encode (build bit addr) = p :: encodeMemBit bit addr := by exact fun _ _ => rfl) :
    Row.Faithful
      ⟨p, 0xFF, 3, fun _ b1 b2 => build (memBitNumber (operandWord b1 b2)) (memBitAddress (operandWord b1 b2))⟩ :=
  .of_opcode rfl fun b1 b2 =>
    ⟨(hwf _ _).trans (memBitNumber_ok _), by rw [henc, encodeMemBit_word, encodeWord_operandWord]; rfl⟩

/-- A row with a bit number in the opcode byte (R78). -/
theorem Row.Faithful.bit {p : Byte} {len : Nat} (build : Nat → Byte → Byte → Instr)
    (hwf : ∀ bit b1 b2, wellFormed (build bit b1 b2) = bitOk bit := by exact fun _ _ _ => rfl)
    (henc : ∀ bit b1 b2, encode (build bit b1 b2) = [encodeBitOp p bit, b1, b2].take len := by
      exact fun _ _ _ => rfl) :
    Row.Faithful ⟨p, 0x1F, len, fun op b1 b2 => build (opcodeBit op) b1 b2⟩ := by
  intro op b1 b2 hop
  obtain rfl : op &&& 0x1F = p := eq_of_beq hop
  exact ⟨(hwf _ _ _).trans (opcodeBit_ok op), by rw [henc, encodeBitOp_opcodeBit]⟩

/-- The row of TCALL (R79). -/
theorem Row.Faithful.tcall : Row.Faithful ⟨0x01, 0x0F, 1, fun op _ _ => .tcall (opcodeIndex op)⟩ := by
  intro op _ _ hop
  have hp : op &&& 0x0F = 0x01 := eq_of_beq hop
  have henc := tcallOp_opcodeIndex op
  rw [hp] at henc
  exact ⟨opcodeIndex_ok op, congrArg ([·]) henc⟩

/-! The rows of the table, each by its format, in the table's order. -/

theorem rows0x_faithful : rows0x.Forall Row.Faithful :=
  ⟨.bytes, .tcall, .bit (fun bit b1 _ => .set1 bit b1), .bit .bbs, .bytes, .word, .bytes, .bytes, .bytes, .bytes,
   .memBit, .bytes, .word, .bytes, .word, .bytes⟩

theorem rows1x_faithful : rows1x.Forall Row.Faithful :=
  ⟨.bytes, .bit (fun bit b1 _ => .clr1 bit b1), .bit .bbc, .bytes, .word, .word, .bytes, .bytes, .bytes, .bytes,
   .bytes, .bytes, .bytes, .word, .word⟩

theorem rows2x_faithful : rows2x.Forall Row.Faithful :=
  ⟨.bytes, .bytes, .word, .bytes, .bytes, .bytes, .bytes, .memBit, .bytes, .word, .bytes, .bytes, .bytes⟩

theorem rows3x_faithful : rows3x.Forall Row.Faithful :=
  ⟨.bytes, .bytes, .word, .word, .bytes, .bytes, .bytes, .bytes, .bytes, .bytes, .bytes, .bytes, .word⟩

theorem rows4x_faithful : rows4x.Forall Row.Faithful :=
  ⟨.bytes, .bytes, .word, .bytes, .bytes, .bytes, .bytes, .memBit, .bytes, .word, .bytes, .word, .bytes⟩

theorem rows5x_faithful : rows5x.Forall Row.Faithful :=
  ⟨.bytes, .bytes, .word, .word, .bytes, .bytes, .bytes, .bytes, .bytes, .bytes, .bytes, .word, .word⟩

theorem rows6x_faithful : rows6x.Forall Row.Faithful :=
  ⟨.bytes, .bytes, .word, .bytes, .bytes, .bytes, .bytes, .memBit, .bytes, .word, .bytes, .bytes, .bytes⟩

theorem rows7x_faithful : rows7x.Forall Row.Faithful :=
  ⟨.bytes, .bytes, .word, .word, .bytes, .bytes, .bytes, .bytes, .bytes, .bytes, .bytes, .bytes, .bytes⟩

theorem rows8x_faithful : rows8x.Forall Row.Faithful :=
  ⟨.bytes, .bytes, .word, .bytes, .bytes, .bytes, .bytes, .memBit, .bytes, .word, .bytes, .bytes, .bytes⟩

theorem rows9x_faithful : rows9x.Forall Row.Faithful :=
  ⟨.bytes, .bytes, .word, .word, .bytes, .bytes, .bytes, .bytes, .bytes, .bytes, .bytes, .bytes, .bytes⟩

theorem rowsAx_faithful : rowsAx.Forall Row.Faithful :=
  ⟨.bytes, .bytes, .word, .bytes, .bytes, .bytes, .bytes, .memBit, .bytes, .word, .bytes, .bytes, .bytes⟩

theorem rowsBx_faithful : rowsBx.Forall Row.Faithful :=
  ⟨.bytes, .bytes, .word, .word, .bytes, .bytes, .bytes, .bytes, .bytes, .bytes, .bytes, .bytes, .bytes⟩

theorem rowsCx_faithful : rowsCx.Forall Row.Faithful :=
  ⟨.bytes, .bytes, .word, .bytes, .bytes, .bytes, .word, .memBit, .bytes, .word, .bytes, .bytes, .bytes⟩

theorem rowsDx_faithful : rowsDx.Forall Row.Faithful :=
  ⟨.bytes, .bytes, .word, .word, .bytes, .bytes, .bytes, .bytes, .bytes, .bytes, .bytes, .bytes, .bytes⟩

theorem rowsEx_faithful : rowsEx.Forall Row.Faithful :=
  ⟨.bytes, .bytes, .word, .bytes, .bytes, .bytes, .word, .memBit, .bytes, .word, .bytes, .bytes, .bytes⟩

theorem rowsFx_faithful : rowsFx.Forall Row.Faithful :=
  ⟨.bytes, .bytes, .word, .word, .bytes, .bytes, .bytes, .bytes, .bytes, .bytes, .bytes, .bytes, .bytes⟩

/-- Every row of the opcode table is faithful (R80). -/
theorem opcodeRows_faithful : ∀ r ∈ opcodeRows, r.Faithful := by
  unfold opcodeRows
  simp only [List.forall_mem_append, ← List.forall_iff_forall_mem, and_assoc]
  exact ⟨rows0x_faithful, rows1x_faithful, rows2x_faithful, rows3x_faithful, rows4x_faithful, rows5x_faithful,
    rows6x_faithful, rows7x_faithful, rows8x_faithful, rows9x_faithful, rowsAx_faithful, rowsBx_faithful,
    rowsCx_faithful, rowsDx_faithful, rowsEx_faithful, rowsFx_faithful⟩

/-- A row takes one to three bytes. -/
theorem opcodeRows_length : ∀ r ∈ opcodeRows, 1 ≤ r.length ∧ r.length ≤ 3 := by
  decide +kernel

/-- The row of an opcode byte is one of the table, and selects the byte (R80). -/
theorem mem_opcodeRows_of_rowOf {op : Byte} {r : Row} (h : rowOf op = some r) :
    r ∈ opcodeRows ∧ r.selects op = true := by
  rw [rowOf] at h
  exact ⟨List.mem_of_find?_eq_some h, List.find?_some (p := fun r : Row => r.selects op) h⟩

/-- The instruction of three bytes is well formed, and its encoding is as many of them as their row is long. -/
theorem row_of_decodeBytes {op b1 b2 : Byte} {i : Instr} (h : decodeBytes op b1 b2 = some i) :
    ∃ r, rowOf op = some r ∧ r.build op b1 b2 = i ∧ 1 ≤ r.length ∧ r.length ≤ 3 ∧ i.WellFormed ∧
      encode i = [op, b1, b2].take r.length := by
  obtain ⟨r, hr, rfl⟩ := Option.map_eq_some_iff.mp h
  obtain ⟨hmem, hsel⟩ := mem_opcodeRows_of_rowOf hr
  obtain ⟨hmin, hmax⟩ := opcodeRows_length r hmem
  obtain ⟨hwf, henc⟩ := opcodeRows_faithful r hmem op b1 b2 hsel
  exact ⟨r, hr, rfl, hmin, hmax, hwf, henc⟩

/-- Every opcode byte, with whatever follows it, is read as an instruction (R80). -/
theorem exists_decodeBytes (op b1 b2 : Byte) : ∃ i, decodeBytes op b1 b2 = some i := by
  obtain ⟨r, hr⟩ := Option.isSome_iff_exists.mp (rowOf_isSome op)
  exact ⟨r.build op b1 b2, by rw [decodeBytes, hr, Option.map_some]⟩

/-- Settles O9: the row of the opcode byte is faithful, and the bytes it does not take are left over. -/
theorem encodeInvertsDecode : Obligations.EncodeInvertsDecode := by
  intro op b1 b2
  obtain ⟨i, hi⟩ := exists_decodeBytes op b1 b2
  obtain ⟨r, hr, rfl, hmin, hmax, hwf, henc⟩ := row_of_decodeBytes hi
  refine ⟨_, _, decode_of_row hr hmax, hwf, ?_⟩
  have hdrop : [b1, b2].drop (r.length - 1) = [op, b1, b2].drop r.length := by
    rw [← List.drop_succ_cons (a := op), Nat.sub_add_cancel hmin]
  rw [hdrop]
  exact (congrArg (· ++ _) henc).trans (List.take_append_drop r.length [op, b1, b2])

/-! ## Every well-formed instruction is read back from its encoding -/

section BitInOpcode

/-! The instruction of an opcode byte that encodes a bit number (R78), a bit number at a time. -/

variable {bit : Nat} (h : bit < 8) (b1 b2 : Byte)
include h

theorem decodeBytes_set1 : decodeBytes (encodeBitOp 0x02 bit) b1 b2 = some (.set1 bit b1) := by
  interval_cases bit <;> exact rfl
theorem decodeBytes_clr1 : decodeBytes (encodeBitOp 0x12 bit) b1 b2 = some (.clr1 bit b1) := by
  interval_cases bit <;> exact rfl
theorem decodeBytes_bbs : decodeBytes (encodeBitOp 0x03 bit) b1 b2 = some (.bbs bit b1 b2) := by
  interval_cases bit <;> exact rfl
theorem decodeBytes_bbc : decodeBytes (encodeBitOp 0x13 bit) b1 b2 = some (.bbc bit b1 b2) := by
  interval_cases bit <;> exact rfl

end BitInOpcode

/-- The instruction of an opcode byte that encodes a TCALL index (R79). -/
theorem decodeBytes_tcall {n : Nat} (h : n < 16) (b1 b2 : Byte) :
    decodeBytes (0x01 ||| BitVec.ofNat 8 (16 * n)) b1 b2 = some (.tcall n) := by
  interval_cases n <;> exact rfl

/-- The instruction of an opcode byte and an encoded operand word (R75). -/
theorem decodeBytes_word {op : Byte} {build : Word → Instr}
    (h : ∀ b1 b2, decodeBytes op b1 b2 = some (build (operandWord b1 b2))) (w : Word) :
    decodeBytes op (w.extractLsb' 0 8) (w.extractLsb' 8 8) = some (build w) := by
  rw [h, operandWord_bytes]

/-- The instruction of an opcode byte and an encoded mem.bit operand (R77). -/
theorem decodeBytes_memBit {op : Byte} {build : Nat → BitVec 13 → Instr}
    (h : ∀ b1 b2, decodeBytes op b1 b2 =
      some (build (memBitNumber (operandWord b1 b2)) (memBitAddress (operandWord b1 b2))))
    {bit : Nat} (hbit : bitOk bit = true) (addr : BitVec 13) :
    decodeBytes op ((BitVec.ofNat 3 bit ++ addr : Word).extractLsb' 0 8)
      ((BitVec.ofNat 3 bit ++ addr : Word).extractLsb' 8 8) = some (build bit addr) := by
  rw [h, operandWord_bytes, memBitNumber_word (of_decide_eq_true hbit), memBitAddress_word]

/-- The encoding of a well-formed instruction begins with an opcode byte, which with the two bytes after it is read as that
instruction, whatever bytes follow the encoding. -/
theorem decodeBytes_encode {i : Instr} (h : i.WellFormed) (rest : List Byte) :
    ∃ op bytes, encode i ++ rest = op :: bytes ∧ decodeBytes op (bytes.getD 0 0) (bytes.getD 1 0) = some i := by
  cases i with
  | tcall n => exact ⟨_, _, rfl, decodeBytes_tcall (of_decide_eq_true h) _ _⟩
  | set1 bit dd => exact ⟨_, _, rfl, decodeBytes_set1 (of_decide_eq_true h) dd _⟩
  | clr1 bit dd => exact ⟨_, _, rfl, decodeBytes_clr1 (of_decide_eq_true h) dd _⟩
  | bbs bit dd rr => exact ⟨_, _, rfl, decodeBytes_bbs (of_decide_eq_true h) dd rr⟩
  | bbc bit dd rr => exact ⟨_, _, rfl, decodeBytes_bbc (of_decide_eq_true h) dd rr⟩
  | or1CMem bit addr | or1CNotMem bit addr | and1CMem bit addr | and1CNotMem bit addr | eor1CMem bit addr
  | mov1CMem bit addr | mov1MemC bit addr | not1 bit addr =>
    exact ⟨_, _, rfl, decodeBytes_memBit (fun _ _ => rfl) h addr⟩
  | orAAbs addr | aslAbs addr | tset1 addr | orAAbsX addr | orAAbsY addr | cmpXAbs addr | jmpAbsXInd addr
  | andAAbs addr | rolAbs addr | andAAbsX addr | andAAbsY addr | call addr | eorAAbs addr | lsrAbs addr | tclr1 addr
  | eorAAbsX addr | eorAAbsY addr | cmpYAbs addr | jmpAbs addr | cmpAAbs addr | rorAbs addr | cmpAAbsX addr
  | cmpAAbsY addr | adcAAbs addr | decAbs addr | adcAAbsX addr | adcAAbsY addr | sbcAAbs addr | incAbs addr
  | sbcAAbsX addr | sbcAAbsY addr | movAbsA addr | movAbsX addr | movAbsY addr | movAbsXA addr | movAbsYA addr
  | movAAbs addr | movXAbs addr | movYAbs addr | movAAbsX addr | movAAbsY addr =>
    exact ⟨_, _, rfl, decodeBytes_word (fun _ _ => rfl) addr⟩
  | _ => exact ⟨_, _, rfl, rfl⟩

/-- Settles O8: the row that reads the instruction back takes as many bytes as the encoding has. -/
theorem decodeInvertsEncode : Obligations.DecodeInvertsEncode := by
  intro i rest h
  obtain ⟨op, bytes, hb, hi⟩ := decodeBytes_encode h rest
  obtain ⟨r, hr, hbuild, hmin, hmax, -, henc⟩ := row_of_decodeBytes hi
  have hlen : (encode i).length = r.length := by
    rw [henc, List.length_take]
    exact Nat.min_eq_left hmax
  have hrest : bytes.drop (r.length - 1) = rest := by
    rw [← List.drop_succ_cons (a := op), Nat.sub_add_cancel hmin, ← hb, ← hlen, List.drop_left]
  have hle : r.length ≤ bytes.length + 1 := by
    rw [← hlen, ← List.length_cons, ← hb, List.length_append]
    exact Nat.le_add_right _ _
  rw [hb, decode_of_row hr hle, hbuild, hrest]

/-- An encoding has at most three bytes: it is read back by a row, and no row is longer. -/
theorem encode_length_le {i : Instr} (h : i.WellFormed) : (encode i).length ≤ 3 := by
  obtain ⟨_, _, -, hi⟩ := decodeBytes_encode h []
  obtain ⟨_, -, -, -, -, -, henc⟩ := row_of_decodeBytes hi
  rw [henc]
  exact List.length_take_le' _ _

/-- Settles O10: each of the nine words is the encoding of its instruction. -/
theorem sampleWordsDecode : Obligations.SampleWordsDecode :=
  ⟨decodeInvertsEncode (.movAImm 0xF1) [] rfl, decodeInvertsEncode (.orDpDp 0x10 0x11) [] rfl,
    decodeInvertsEncode (.movDpImm 0xAB 0x10) [] rfl, decodeInvertsEncode (.call 0x1234) [] rfl,
    decodeInvertsEncode (.tcall 4) [] rfl, decodeInvertsEncode (.set1 3 0x10) [] rfl,
    decodeInvertsEncode (.bbc 7 0x10 0xFE) [] rfl, decodeInvertsEncode (.mov1CMem 3 0x1234) [] rfl,
    decodeInvertsEncode (.dbnzDp 0x10 0xFD) [] rfl⟩

end Sys2Proof

namespace Sys2Proof.Machine

/-! ## The step at PC (R81, R86) -/

/-- The stream bytes are those at PC and after it, modulo 2^16 (R87). -/
theorem State.streamByte_eq (s : State) (k : Nat) : s.streamByte k = s.peek ((s.pc.toNat + k) % 0x10000) := by
  rw [State.streamByte, BitVec.toNat_add, BitVec.toNat_ofNat, Nat.add_mod_mod]

theorem State.streamByte_zero (s : State) : s.streamByte 0 = s.peek s.pc.toNat :=
  congrArg (fun w : Word => s.peek w.toNat) (BitVec.add_zero s.pc)

/-- Where the opcode byte at PC is recognized, the stream bytes are decoded (R80, R86). -/
theorem State.fetched_of_recognized {s : State} (h : s.peek s.pc.toNat ∉ s.params.unrecognized) :
    s.fetched = decodeBytes (s.streamByte 0) (s.streamByte 1) (s.streamByte 2) :=
  if_pos (by simpa [recognizes, s.streamByte_zero] using h)

/-- Where it is not recognized, there is no instruction at PC (R81). -/
theorem State.fetched_of_unrecognized {s : State} (h : s.peek s.pc.toNat ∈ s.params.unrecognized) :
    s.fetched = none :=
  if_neg (by simpa [recognizes, s.streamByte_zero] using h)

/-- A step at an instruction runs it after the opcode fetch, and emits no event (R86). -/
theorem step_of_fetched {s : State} {i : Instr} (h : s.fetched = some i) :
    step s = exec i s.fetch8 ∧ s.unknownOpcode = none := by
  simp only [step, State.unknownOpcode, h, and_self]

/-- A step where there is none is the opcode fetch, and emits the opcode byte (R81). -/
theorem step_of_not_fetched {s : State} (h : s.fetched = none) :
    step s = .next s.fetch8 ∧ s.unknownOpcode = some (s.peek s.pc.toNat) := by
  simp only [step, State.unknownOpcode, h, s.streamByte_zero, and_self]

/-- Settles O13: an unrecognized opcode byte is no instruction, and every recognized one is. -/
theorem unrecognizedOpcodeIsSkipped : Obligations.UnrecognizedOpcodeIsSkipped := by
  intro s
  refine ⟨fun h => step_of_not_fetched (State.fetched_of_unrecognized h), fun h => ?_⟩
  obtain ⟨i, hi⟩ := exists_decodeBytes (s.streamByte 0) (s.streamByte 1) (s.streamByte 2)
  exact (step_of_fetched ((State.fetched_of_recognized h).trans hi)).2

/-- The three stream bytes begin with the encoding of the instruction whose bytes stand at PC (R86 to R88). -/
theorem State.exists_encode_append_eq_stream {s : State} {i : Instr} (hwf : i.WellFormed)
    (h : ∀ k, k < (encode i).length → s.peek ((s.pc.toNat + k) % 0x10000) = (encode i).getD k 0) :
    ∃ rest, encode i ++ rest = [s.streamByte 0, s.streamByte 1, s.streamByte 2] := by
  have hlen := encode_length_le hwf
  have htake : encode i = [s.streamByte 0, s.streamByte 1, s.streamByte 2].take (encode i).length := by
    refine List.ext_getElem (by simpa using hlen) fun k hk _ => ?_
    have hbyte : s.streamByte k = (encode i)[k] := by
      rw [s.streamByte_eq, h k hk, List.getD_eq_getElem _ _ hk]
    have hk3 : k < 3 := by omega
    rw [← hbyte, List.getElem_take]
    interval_cases k <;> rfl
  exact ⟨_, (congrArg (· ++ _) htake).trans (List.take_append_drop ..)⟩

/-- Settles O12: the stream bytes begin with the instruction's encoding, and decode to it. -/
theorem stepRunsEncodedInstruction : Obligations.StepRunsEncodedInstruction := by
  intro s i hwf hbytes hrec
  obtain ⟨rest, hrest⟩ := State.exists_encode_append_eq_stream hwf hbytes
  obtain ⟨op, bytes, hb, hi⟩ := decodeBytes_encode hwf rest
  obtain ⟨rfl, rfl⟩ := List.cons.inj (hrest.symm.trans hb)
  exact step_of_fetched ((State.fetched_of_recognized hrec).trans hi)

end Sys2Proof.Machine

/-! PROOFS. Effective addresses (spec/40_addressing.md R89 to R107), the step at PC (R86, R87), the auto-increment moves
(R94), and the branches and jumps (spec/44_branch_jump.md R235 to R251). -/

namespace Sys2Proof.Machine

/-! ## Effective addresses (R89 to R102) -/

/-- A byte as a word is the same number. -/
@[simp] theorem zext_toNat (b : Byte) : (zext b).toNat = b.toNat := BitVec.toNat_setWidth_of_le (by decide)

/-- A byte added to a 16-bit base (R90). -/
theorem add_zext_toNat (w : Word) (b : Byte) : (w + zext b).toNat = (w.toNat + b.toNat) % 0x10000 := by
  rw [BitVec.toNat_add, zext_toNat]

/-- Settles O21: an offset is at most 0xFF, so its sum with 0x0100 does not wrap. -/
theorem directPageAddress : Obligations.DirectPageAddress := by
  intro s b
  have hpage : (0x0100 + zext b).toNat = 0x0100 + b.toNat := by
    have := b.isLt
    rw [add_zext_toNat]
    exact Nat.mod_eq_of_lt (show 0x0100 + b.toNat < 0x10000 by omega)
  calc (s.dp b).toNat = if s.flag .p then (0x0100 + zext b).toNat else (zext b).toNat := apply_ite _ _ _ _
    _ = if s.psw.getLsbD 5 then 0x0100 + b.toNat else b.toNat := by rw [hpage, zext_toNat]; rfl

/-- A direct-page address is in page 0 or page 1 (R89). -/
theorem State.dp_lt (s : State) (b : Byte) : (s.dp b).toNat < 0x200 := by
  have := b.isLt
  rw [directPageAddress s b]
  split <;> omega

/-- An index added to a direct-page address leaves the page and does not wrap (R96, R97). -/
theorem State.dp_add_zext_toNat (s : State) (d b : Byte) : (s.dp d + zext b).toNat = (s.dp d).toNat + b.toNat := by
  have := s.dp_lt d
  have := b.isLt
  rw [add_zext_toNat]
  exact Nat.mod_eq_of_lt (by omega)

/-- Settles O22: sums with a direct-page address never wrap, sums with a 16-bit base do, and a pointer is a word read
without wrap. -/
theorem effectiveAddresses : Obligations.EffectiveAddresses := by
  intro s d addr
  have hindX : (s.ea (.indX d)).toNat = 0x100 * (s.peek ((s.dp d).toNat + s.x.toNat + 1)).toNat +
      (s.peek ((s.dp d).toNat + s.x.toNat)).toNat := by
    rw [State.ea, State.peekWord_toNat, State.dp_add_zext_toNat]
  have hindY : (s.ea (.indY d)).toNat = (0x100 * (s.peek ((s.dp d).toNat + 1)).toNat +
      (s.peek (s.dp d).toNat).toNat + s.y.toNat) % 0x10000 := by
    rw [State.ea, add_zext_toNat, State.peekWord_toNat]
  exact ⟨rfl, rfl, rfl, rfl, s.dp_add_zext_toNat d s.x, s.dp_add_zext_toNat d s.y, add_zext_toNat addr s.x,
    add_zext_toNat addr s.y, hindX, hindY⟩

/-! ## The step (R86, R87) -/

/-- Settles O11: the stream bytes are the three bytes that are decoded, and the opcode fetch is the update of PC and
`last_addr`. -/
theorem stepRunsDecodedInstruction : Obligations.StepRunsDecodedInstruction := by
  intro s i rest hrec hdec
  rw [← s.streamByte_zero] at hdec
  have hi : s.fetched = some i := (State.fetched_of_recognized hrec).trans (decodeBytes_of_decode hdec)
  exact (step_of_fetched hi).1

/-- Settles O14: every instruction has its effect, and a step runs one or is the opcode fetch alone. -/
theorem everyStepCompletes : Obligations.EveryStepCompletes := by
  have hexec : ∀ (i : Instr) (s : State), ∃ t, exec i s = .next t := by
    intro i s
    obtain ⟨t, ht, -⟩ := exec_effect i s
    exact ⟨t, ht⟩
  refine ⟨hexec, fun s => ?_⟩
  cases h : s.fetched with
  | none => exact ⟨s.fetch8, (step_of_not_fetched h).1⟩
  | some i =>
    obtain ⟨t, ht⟩ := hexec i s.fetch8
    exact ⟨t, (step_of_fetched h).1.trans ht⟩

/-! ## Increment and decrement of a byte, on numbers -/

theorem byte_add_one (b : Byte) : b + 1 = BitVec.ofNat 8 (b.toNat + 1) := by
  rw [BitVec.ofNat_add, BitVec.ofNat_toNat, BitVec.setWidth_eq]
  rfl

theorem byte_sub_one (b : Byte) : b - 1 = BitVec.ofNat 8 (b.toNat + 0xFF) := by
  rw [BitVec.ofNat_add, BitVec.ofNat_toNat, BitVec.setWidth_eq]
  exact BitVec.sub_eq_add_neg _ _

/-! ## The auto-increment moves (R94) -/

/-- SetNZ8 writes N and Z from the byte, as numbers (R109). -/
theorem State.setNZ8_psw (s : State) (v : Byte) : (s.setNZ8 v).psw = s.pswFrom8 v := by
  rw [State.pswFrom8, ← byte_sign, ← byte_zero]
  apply State.psw_of_flags <;> exact State.flag_setNZ8 s v _

/-- `MOV A, (X)+` changes A, X, PSW and `last_addr` (R295). -/
theorem execMovAXInc_eq (s : State) : execMovAXInc s = .next { s with
    a := s.peek (s.dp s.x).toNat, x := s.x + 1, psw := s.pswFrom8 (s.peek (s.dp s.x).toNat),
    lastAddr := (s.dp s.x).toNat } := by
  rw [← State.setNZ8_psw]
  rfl

/-- `MOV (X)+, A` changes X, one byte of memory and `last_addr` (R312). -/
theorem execMovXIncA_eq (s : State) : execMovXIncA s = .next { s with
    x := s.x + 1, mem := (s.memWrite (s.dp s.x).toNat s.a).mem, lastAddr := (s.dp s.x).toNat } := rfl

/-- Settles O36: both access the byte at `DP(X)` before X is incremented. -/
theorem autoIncrementMoves : Obligations.AutoIncrementMoves := by
  refine ⟨fun s v hv => ?_, fun s => ⟨_, execMovXIncA_eq s, ?_, fun k => ?_⟩⟩
  · rw [← byte_add_one, hv]
    exact execMovAXInc_eq s
  · rw [← byte_add_one]
  · exact s.peek_memWrite_word (s.dp s.x) k s.a

/-! ## Branches (R103, R235 to R249) -/

/-- A branch consumes its displacement and changes PC and `last_addr` alone, whether it is taken or not (R103). -/
theorem State.branchIf_eq (s : State) {taken : Bool} {p : Prop} [Decidable p] (h : taken = true ↔ p) (rr : Byte) :
    s.branchIf taken rr = { s with pc := if p then s.target 1 rr else s.pcAfter 1, lastAddr := s.pc.toNat } := by
  apply State.ext <;> simp [State.target_eq, h]

/-- So does a branch on the byte of an operand with one operand byte of its own (R244 to R247). -/
theorem State.branchIf_modeRead_eq (s : State) {m : Mode} (hm : (s.enter m).pc = s.pc + 1) {taken : Bool} {p : Prop}
    [Decidable p] (h : taken = true ↔ p) (rr : Byte) :
    (s.modeRead m).branchIf taken rr = { s with
      pc := if p then s.target 2 rr else s.pcAfter 2, lastAddr := (s.pcAfter 1).toNat } := by
  apply State.ext <;> simp [State.target_eq, h, hm]

/-- Settles O46: each of the nine is `branchIf` of its condition. -/
theorem conditionalBranches : Obligations.ConditionalBranches := by
  intro i cond hmem rr s
  have hexec : exec (i rr) s = .next (s.branchIf (cond s) rr) := by
    simp only [branchForms, List.mem_cons, Prod.mk.injEq, List.not_mem_nil, or_false] at hmem
    rcases hmem with ⟨rfl, rfl⟩ | ⟨rfl, rfl⟩ | ⟨rfl, rfl⟩ | ⟨rfl, rfl⟩ | ⟨rfl, rfl⟩ | ⟨rfl, rfl⟩ | ⟨rfl, rfl⟩ |
      ⟨rfl, rfl⟩ | ⟨rfl, rfl⟩ <;> rfl
  rw [hexec, s.branchIf_eq Iff.rfl]

/-- A bit of a byte, as a number. -/
theorem getLsbD_iff (b : Byte) (bit : Nat) : b.getLsbD bit = true ↔ b.toNat / 2 ^ bit % 2 = 1 := by
  rw [BitVec.getLsbD, Nat.testBit_eq_decide_div_mod_eq, decide_eq_true_iff]

/-- A clear bit of a byte, as a number. -/
theorem not_getLsbD_iff (b : Byte) (bit : Nat) : (!b.getLsbD bit) = true ↔ b.toNat / 2 ^ bit % 2 = 0 := by
  rw [Bool.not_eq_true', ← Bool.not_eq_true, getLsbD_iff, Nat.mod_two_not_eq_one]

/-- The byte of a `dp+X` operand (R96). -/
theorem State.modeValue_dpX (s : State) (dd : Byte) :
    s.modeValue (.dpX dd) = s.peek ((s.dp dd).toNat + s.x.toNat) := by
  rw [State.modeValue, State.ea, State.dp_add_zext_toNat]

/-- Settles O47: each reads its byte or register, and is then a branch on a number or an inequality. -/
theorem testAndBranch : Obligations.TestAndBranch := by
  refine ⟨fun bit dd rr s _ => ⟨?bbs, ?bbc⟩, fun dd rr s => ⟨?cbneDp, ?cbneDpX⟩, fun rr s v hv => ?dbnzY⟩
  case bbs => exact congrArg Host.Outcome.next (s.branchIf_modeRead_eq (m := .dp dd) rfl (getLsbD_iff _ bit) rr)
  case bbc => exact congrArg Host.Outcome.next (s.branchIf_modeRead_eq (m := .dp dd) rfl (not_getLsbD_iff _ bit) rr)
  case cbneDp => exact congrArg Host.Outcome.next (s.branchIf_modeRead_eq (m := .dp dd) rfl bne_iff_ne rr)
  case cbneDpX =>
    rw [← State.modeValue_dpX]
    exact congrArg Host.Outcome.next (s.branchIf_modeRead_eq (m := .dpX dd) rfl bne_iff_ne rr)
  case dbnzY =>
    rw [← byte_sub_one] at hv
    subst hv
    exact congrArg Host.Outcome.next (State.branchIf_eq { s with y := s.y - 1 } bne_iff_ne rr)

/-! ## Jumps (R106, R250, R251) -/

/-- The word ReadWord answers, from its bytes as numbers (R37). -/
theorem State.peekWord_eq (s : State) (addr : Nat) :
    s.peekWord addr = BitVec.ofNat 16 (0x100 * (s.peek (addr + 1)).toNat + (s.peek addr).toNat) := by
  rw [← State.peekWord_toNat, BitVec.ofNat_toNat, BitVec.setWidth_eq]

/-- `JMP !abs` changes PC and `last_addr`. -/
theorem execJmpAbs_eq (addr : Word) (s : State) :
    execJmpAbs addr s = .next { s with pc := addr, lastAddr := (s.pcAfter 1).toNat } := by
  rw [State.pcAfter_one]
  rfl

/-- `JMP [!abs+X]` changes PC and `last_addr`. -/
theorem execJmpAbsXInd_eq (addr : Word) (s : State) :
    execJmpAbsXInd addr s = .next { s with
      pc := s.peekWord (addr + zext s.x).toNat, lastAddr := (addr + zext s.x).toNat + 1 } := rfl

/-- Settles O49: the pointer's address is a sum modulo 2^16, and the pointer a word read there. -/
theorem jumpsLoadPc : Obligations.JumpsLoadPc := by
  intro addr s p hp
  refine ⟨execJmpAbs_eq addr s, ?_⟩
  rw [← add_zext_toNat] at hp
  rw [hp, ← State.peekWord_eq]
  exact execJmpAbsXInd_eq addr s

end Sys2Proof.Machine

/-! PROOFS. 8-bit arithmetic and logic (spec/41_alu8.md, spec/41_alu8_arith.md): the byte and the PSW of each shared
operation are those of the rules written on numbers (R109 to R113), and every instruction of the family is one shared
operation on its operands (R114 to R191). -/

namespace Sys2Proof.Machine

/-! ## SetNZ8 and SetNZ16 (R109, R223) -/

/-- SetNZ16 writes N and Z from the word, as numbers (R223). -/
theorem State.setNZ16_psw (s : State) (w : Word) : (s.setNZ16 w).psw = s.pswFrom16 w := by
  rw [State.pswFrom16, ← word_sign, ← word_zero]
  apply State.psw_of_flags <;> exact State.flag_setNZ16 s w _

/-- SetNZ8 changes N and Z of PSW alone (R109). -/
theorem State.setNZ8_eq (s : State) (v : Byte) : s.setNZ8 v = { s with psw := s.pswFrom8 v } := by
  rw [← State.setNZ8_psw]
  rfl

/-- SetNZ16 changes N and Z of PSW alone (R223). -/
theorem State.setNZ16_eq (s : State) (w : Word) : s.setNZ16 w = { s with psw := s.pswFrom16 w } := by
  rw [← State.setNZ16_psw]
  rfl

/-- Settles O23: each is two flag writes, so only PSW differs, and PSW is read flag by flag. -/
theorem setNZWritesTwoFlags : Obligations.SetNZWritesTwoFlags :=
  fun s v w => ⟨s.setNZ8_eq v, s.setNZ16_eq w⟩

/-! ## PSW after the flag writes that end in SetNZ8 -/

/-- C, H and V written, then N and Z from a byte: the flag writes of ADC8 and SBC8 (R111, R112). -/
theorem State.psw_setFlags_chv_setNZ8 (s : State) (c h v : Bool) (r : Byte) :
    ((((s.setFlag .c c).setFlag .h h).setFlag .v v).setNZ8 r).psw =
      s.pswNVHZC (0x80 ≤ r.toNat) v h (r.toNat == 0) c := by
  rw [State.setNZ8_psw]
  simp [State.pswFrom8, State.pswNZ, State.pswNVHZC, State.flag_setFlag]

/-- C and V written, then N and Z from a byte: the flag writes of CMP8 (R113). -/
theorem State.psw_setFlags_cv_setNZ8 (s : State) (c v : Bool) (r : Byte) :
    (((s.setFlag .c c).setFlag .v v).setNZ8 r).psw = s.pswNVZC (0x80 ≤ r.toNat) v (r.toNat == 0) c := by
  rw [State.setNZ8_psw]
  simp [State.pswFrom8, State.pswNZ, State.pswNVZC, State.flag_setFlag]

/-! ## Half carry on numbers -/

/-- `(n & 0x10) != 0` is bit 4 of a number. -/
theorem nat_and_0x10_ne_zero (n : Nat) : (n &&& 0x10 != 0) = n.testBit 4 := by
  rw [show 0x10 = 2 ^ 4 from rfl, Nat.and_two_pow]
  cases n.testBit 4 <;> rfl

/-- The half-carry test sees bit 4 only, so it may take the full sum or difference in place of the byte (R111, R112). -/
theorem halfCarry8_eq_nibbleCarry (v1 v2 : Byte) {r : Byte} {n : Nat} (hr : r.toNat = n % 0x100) :
    halfCarry8 v1 v2 r = nibbleCarry v1 v2 n := by
  have hbit : r.getLsbD 4 = n.testBit 4 := by
    rw [BitVec.getLsbD, hr]
    exact Nat.testBit_mod_two_pow n 8 4
  rw [halfCarry8, and_0x10_ne_zero, nibbleCarry, nat_and_0x10_ne_zero, BitVec.getLsbD_xor, BitVec.getLsbD_xor, hbit,
    Nat.testBit_xor, Nat.testBit_xor]
  rfl

/-! ## ADC8 (R111) -/

/-- The integer the overflow test of ADC8 applies to, in both readings. -/
theorem State.adcRangeValue_eq (s : State) (v1 v2 : Byte) :
    adcRangeValue s.params.overflow8 (s.flag .c) v1 v2 = s.rangeSum v1 v2 := by
  rw [State.rangeSum]
  cases s.params.overflow8 <;> rfl

/-- PSW after ADC8, on numbers. -/
theorem State.adcFlags_psw (s : State) (v1 v2 : Byte) : (s.adcFlags v1 v2).psw = s.pswAdc v1 v2 := by
  rw [State.adcFlags, State.psw_setFlags_chv_setNZ8, State.adcRangeValue_eq,
    halfCarry8_eq_nibbleCarry v1 v2 (adcResult_toNat (s.flag .c) v1 v2), adcResult_toNat]
  rfl

/-! ## SBC8 (R112) -/

/-- `R16`, on numbers. -/
theorem State.sbcWord_toNat (s : State) (v1 v2 : Byte) : (sbcWord (s.flag .c) v1 v2).toNat = s.diff16 v1 v2 :=
  BitVec.toNat_ofInt _

/-- The byte SBC8 returns, as a number. -/
theorem State.sbcResult_toNat (s : State) (v1 v2 : Byte) :
    (sbcResult (s.flag .c) v1 v2).toNat = s.diff16 v1 v2 % 0x100 := by
  rw [sbcResult, lowByte_eq, BitVec.toNat_ofNat, State.sbcWord_toNat]

/-- The carry SBC8 writes: the high byte of `R16` is zero. -/
theorem State.sbcCarry_eq (s : State) (v1 v2 : Byte) :
    (highByte (sbcWord (s.flag .c) v1 v2) == 0) = (s.diff16 v1 v2 / 0x100 == 0) := by
  have hlt : s.diff16 v1 v2 / 0x100 < 2 ^ 8 := by
    have := (sbcWord (s.flag .c) v1 v2).isLt
    rw [State.sbcWord_toNat] at this
    omega
  rw [byte_zero, highByte_eq, State.sbcWord_toNat, BitVec.toNat_ofNat, Nat.mod_eq_of_lt hlt]

/-- The integer the overflow test of SBC8 applies to, in both readings. -/
theorem State.sbcRangeValue_eq (s : State) (v1 v2 : Byte) :
    sbcRangeValue s.params.overflow8 (s.flag .c) v1 v2 = s.rangeDiff v1 v2 := by
  rw [State.rangeDiff]
  cases s.params.overflow8 <;> rfl

/-- PSW after SBC8, on numbers. -/
theorem State.sbcFlags_psw (s : State) (v1 v2 : Byte) : (s.sbcFlags v1 v2).psw = s.pswSbc v1 v2 := by
  rw [State.sbcFlags, State.psw_setFlags_chv_setNZ8, State.sbcRangeValue_eq, State.sbcCarry_eq,
    halfCarry8_eq_nibbleCarry v1 v2 (s.sbcResult_toNat v1 v2), State.sbcResult_toNat]
  rfl

/-! ## CMP8 (R113) -/

/-- The byte CMP8 takes N and Z from is the difference of bytes. -/
theorem lowByte_cmpDiff (v1 v2 : Byte) : lowByte (BitVec.ofInt 16 (cmpDiff v1 v2)) = v1 - v2 := by
  have := v2.isLt
  apply BitVec.eq_of_toNat_eq
  rw [lowByte_eq, BitVec.toNat_ofNat, BitVec.toNat_ofInt, BitVec.toNat_sub, cmpDiff]
  omega

/-- PSW after CMP8, on numbers. -/
theorem State.cmpFlags_psw (s : State) (v1 v2 : Byte) : (s.cmpFlags v1 v2).psw = s.pswCmp v1 v2 := by
  have hn : (v1 - v2).toNat = (v1.toNat + 0x100 - v2.toNat) % 0x100 := by
    have := v2.isLt
    rw [BitVec.toNat_sub]
    omega
  have hz : (v1 - v2 == 0) = (v1 == v2) := by
    rw [Bool.eq_iff_iff, beq_iff_eq, beq_iff_eq, sub_eq_zero]
  have hc : (0 ≤ cmpDiff v1 v2) = (v2.toNat ≤ v1.toNat) := by
    rw [cmpDiff, Int.sub_nonneg, Int.ofNat_le]
  rw [State.cmpFlags, State.psw_setFlags_cv_setNZ8, lowByte_cmpDiff, ← byte_zero, hn, hz, State.pswCmp]
  simp only [hc]
  rfl

/-! ## The byte and PSW of every operation (R110 to R112) -/

/-- The byte OR, AND, EOR, ADC or SBC gives, on numbers. -/
theorem State.aluResult_eq (s : State) (op : Alu) (v1 v2 : Byte) : s.aluResult op v1 v2 = s.aluByte op v1 v2 := by
  apply BitVec.eq_of_toNat_eq
  cases op with
  | or | and | eor => simp [State.aluResult, State.aluByte]
  | adc => rfl
  | sbc => rw [State.aluResult, State.aluByte, State.sbcResult_toNat, BitVec.toNat_ofNat]

/-- PSW after OR, AND, EOR, ADC or SBC, on numbers. -/
theorem State.aluFlags_psw (s : State) (op : Alu) (v1 v2 : Byte) : (s.aluFlags op v1 v2).psw = s.aluPsw op v1 v2 := by
  cases op with
  | or | and | eor => rw [State.aluFlags, State.setNZ8_psw, State.aluPsw, ← State.aluResult_eq, State.aluResult]
  | adc => exact s.adcFlags_psw v1 v2
  | sbc => exact s.sbcFlags_psw v1 v2

/-! ## The helpers' rules, flag by flag -/

/-- The range test of the overflow flag, as a proposition (R111 to R113). -/
theorem outOfRange_iff (r : Int) : outOfRange r = true ↔ r < -127 ∨ 127 < r := by
  rw [outOfRange, Bool.or_eq_true, decide_eq_true_iff, decide_eq_true_iff]

/-- Settles O24: the flags are read off PSW; under the unsigned reading the sum is never below -127. -/
theorem adcHelperFollowsItsRule : Obligations.AdcHelperFollowsItsRule := by
  intro s v1 v2 S hS
  obtain rfl : S = s.fullSum v1 v2 := hS
  obtain ⟨hn, hv, hp, hb, hh, hi, hz, hc⟩ := State.flags_of_psw (s.aluFlags_psw .adc v1 v2)
  refine ⟨adcResult_toNat (s.flag .c) v1 v2, rfl, hc, hh, fun hread => ?unsigned, fun hread => ?signed, hz, hn, hp, hb,
    hi⟩
  case unsigned =>
    have hrange : s.rangeSum v1 v2 = s.fullSum v1 v2 := by simp [State.rangeSum, hread]
    rw [hv, hrange, Bool.eq_iff_iff, decide_eq_true_iff]
    exact (outOfRange_iff _).trans (by omega)
  case signed =>
    rw [hv, State.rangeSum, if_pos hread]
    exact outOfRange_iff _

/-- Settles O25: the flags are read off PSW. -/
theorem sbcHelperFollowsItsRule : Obligations.SbcHelperFollowsItsRule := by
  intro s v1 v2 R R16 hR hR16
  obtain rfl : R = s.fullDiff v1 v2 := hR
  obtain rfl : R16 = s.diff16 v1 v2 := hR16
  obtain ⟨hn, hv, hp, hb, hh, hi, hz, hc⟩ := State.flags_of_psw (s.aluFlags_psw .sbc v1 v2)
  refine ⟨s.sbcResult_toNat v1 v2, rfl, hc, hh, fun hread => ?unsigned, fun hread => ?signed, hz, hn, hp, hb, hi⟩
  case unsigned =>
    have hrange : s.rangeDiff v1 v2 = s.fullDiff v1 v2 := by simp [State.rangeDiff, hread]
    rw [hv, hrange]
    exact outOfRange_iff _
  case signed =>
    rw [hv, State.rangeDiff, if_pos hread]
    exact outOfRange_iff _

/-- Settles O26: the flags are read off PSW; C and N are the same tests on the integer difference. -/
theorem compareHelperFollowsItsRule : Obligations.CompareHelperFollowsItsRule := by
  rintro s v1 v2 R rfl
  obtain ⟨hn, hv, hp, hb, hh, hi, hz, hc⟩ := State.flags_of_psw (s.cmpFlags_psw v1 v2)
  refine ⟨rfl, ?c, ?v, hz, ?n, hh, hp, hb, hi⟩
  case c => rw [hc, decide_eq_decide, Int.sub_nonneg, Int.ofNat_le]
  case v =>
    rw [hv]
    exact outOfRange_iff _
  case n =>
    have := v2.isLt
    rw [hn, decide_eq_decide]
    omega

/-! ## The instructions -/

/-- Each of the 45 instructions with destination A is the shared operation on its operand. -/
theorem exec_aluAInstr (op : Alu) (o : AccOperand) (s : State) :
    exec (aluAInstr op o) s = .next (s.aluA op o.source) := by
  cases op <;> cases o <;> rfl

/-- Each of the 15 instructions with a memory destination is the shared operation on its operands. -/
theorem exec_aluMemInstr (op : Alu) (f : MemForm) (s : State) :
    exec (aluMemInstr op f) s = .next (s.aluMem op f.source f.dest) := by
  cases op <;> cases f <;> rfl

/-- `CMP A` in each form is the shared compare. -/
theorem exec_cmpAInstr (o : AccOperand) (s : State) : exec (cmpAInstr o) s = .next (s.cmpReg .a o.source) := by
  cases o <;> rfl

/-- `CMP X` in each form is the shared compare. -/
theorem exec_cmpXInstr (o : IndexOperand) (s : State) :
    exec (cmpXInstr o) s = .next (s.cmpReg .x o.acc.source) := by
  cases o <;> rfl

/-- `CMP Y` in each form is the shared compare. -/
theorem exec_cmpYInstr (o : IndexOperand) (s : State) :
    exec (cmpYInstr o) s = .next (s.cmpReg .y o.acc.source) := by
  cases o <;> rfl

/-- CMP of memory in each form is the shared compare. -/
theorem exec_cmpMemInstr (f : MemForm) (s : State) :
    exec (cmpMemInstr f) s = .next (s.cmpMem f.source f.dest) := by
  cases f <;> rfl

/-- Settles O28: the shared operation changes A, PSW, PC and `last_addr`, and each is the one of the rule. -/
theorem aluOnAccumulator : Obligations.AluOnAccumulator := by
  intro op o s
  rw [exec_aluAInstr, State.aluA_eq, State.aluResult_eq, State.aluFlags_psw, AccOperand.sourceRead_pc]

/-- Settles O29: the shared operation changes PSW, PC, `last_addr` and the byte at its destination. -/
theorem aluOnMemory : Obligations.AluOnMemory := by
  intro op f s
  refine ⟨s.aluMem op f.source f.dest, exec_aluMemInstr op f s, ?frame, fun k => ?stored⟩
  case frame => rw [State.aluMem_eq, State.aluFlags_psw, MemForm.reads_pc]
  case stored =>
    rw [State.aluMem_eq, State.aluResult_eq]
    exact s.peek_memWrite_word (s.ea f.dest) k _

/-- A compare of a register in one of the nine forms: PSW, PC and `last_addr` of the rule (R113). -/
theorem State.cmpReg_acc_eq (s : State) (r : Reg) (o : AccOperand) :
    s.cmpReg r o.source = { s with
      psw := s.pswCmp (s.reg r) (s.sourceValue o.source), pc := s.pcAfter o.bytes,
      lastAddr := s.sourceAddr o.source } := by
  rw [State.cmpReg_eq, State.cmpFlags_psw, AccOperand.sourceRead_pc]

/-- Settles O30: every CMP is the shared compare of a register or of memory. -/
theorem compareWritesFlagsOnly : Obligations.CompareWritesFlagsOnly := by
  refine ⟨fun o s => ?a, fun o s => ?x, fun o s => ?y, fun f s => ?mem⟩
  case a => exact (exec_cmpAInstr o s).trans (congrArg Host.Outcome.next (s.cmpReg_acc_eq .a o))
  case x => exact (exec_cmpXInstr o s).trans (congrArg Host.Outcome.next (s.cmpReg_acc_eq .x o.acc))
  case y => exact (exec_cmpYInstr o s).trans (congrArg Host.Outcome.next (s.cmpReg_acc_eq .y o.acc))
  case mem => rw [exec_cmpMemInstr, State.cmpMem_eq, State.cmpFlags_psw, MemForm.reads_pc]

end Sys2Proof.Machine

/-! PROOFS. Shifts, rotates, INC, DEC and XCN (spec/42_shift_incdec.md): the byte and the PSW of the shared operation are
those of the rules written on numbers (R192, R193), and every instruction of the family is that operation on its operand
(R194 to R222). -/

namespace Sys2Proof.Machine

/-! ## A byte joined from two numbers -/

/-- A bit of the byte whose low `i` bits are those of `lo` and whose other bits are those of `hi`. -/
theorem getLsbD_ofNat_join (hi : Nat) {lo i j m : Nat} (hm : m = 2 ^ i) (hlo : lo < m) (hj : j < 8) :
    (BitVec.ofNat 8 (m * hi + lo)).getLsbD j = if j < i then lo.testBit j else hi.testBit (j - i) := by
  subst hm
  rw [BitVec.getLsbD_ofNat, Nat.testBit_two_pow_mul_add hi hlo, decide_eq_true hj, Bool.true_and]

/-- The bit a carry is, as a number. -/
theorem testBit_toNat_zero (c : Bool) : c.toNat.testBit 0 = c := by
  cases c <;> rfl

/-- A shift left, on numbers (R192). -/
theorem shiftLeft_one (v : Byte) : v <<< 1 = BitVec.ofNat 8 (2 * v.toNat) := by
  apply BitVec.eq_of_toNat_eq
  rw [BitVec.toNat_shiftLeft, BitVec.toNat_ofNat, Nat.shiftLeft_eq, Nat.mul_comm, pow_one]

/-- A shift right, on numbers (R192). -/
theorem shiftRight_one (v : Byte) : v >>> 1 = BitVec.ofNat 8 (v.toNat / 2) := by
  have := v.isLt
  apply BitVec.eq_of_toNat_eq
  rw [BitVec.toNat_ushiftRight, BitVec.toNat_ofNat, Nat.shiftRight_eq_div_pow]
  omega

/-- A rotate left, on numbers (R192): the bit shifted in is the lowest. -/
theorem withBit_shiftLeft_one (v : Byte) (c : Bool) :
    withBit (v <<< 1) 0 c = BitVec.ofNat 8 (2 * v.toNat + c.toNat) := by
  apply BitVec.eq_of_getLsbD_eq
  intro j hj
  rw [withBit_bit _ _ hj, getLsbD_ofNat_join v.toNat (i := 1) (m := 2) rfl c.toNat_lt hj, BitVec.testBit_toNat]
  by_cases h : j = 0
  · rw [if_pos h, if_pos (by omega), h, testBit_toNat_zero]
  · rw [if_neg h, if_neg (by omega), BitVec.getLsbD_shiftLeft]
    simp [h, hj]

/-- A rotate right, on numbers (R192): the bit shifted in is the highest. -/
theorem withBit_shiftRight_one (v : Byte) (c : Bool) :
    withBit (v >>> 1) 7 c = BitVec.ofNat 8 (v.toNat / 2 + 0x80 * c.toNat) := by
  have hlo : v.toNat / 2 < 0x80 := by
    have := v.isLt
    omega
  apply BitVec.eq_of_getLsbD_eq
  intro j hj
  rw [withBit_bit _ _ hj, Nat.add_comm, getLsbD_ofNat_join c.toNat (i := 7) (m := 0x80) rfl hlo hj]
  by_cases h : j = 7
  · rw [if_pos h, if_neg (by omega), h, testBit_toNat_zero]
  · rw [if_neg h, if_pos (by omega), BitVec.getLsbD_ushiftRight, Nat.testBit_div_two, BitVec.testBit_toNat,
      Nat.add_comm]

/-- The exchange of nibbles, on numbers (R222). -/
theorem shiftLeft_or_shiftRight_four (v : Byte) :
    v <<< 4 ||| v >>> 4 = BitVec.ofNat 8 (v.toNat / 0x10 + 0x10 * (v.toNat % 0x10)) := by
  have hlo : v.toNat / 0x10 < 0x10 := by
    have := v.isLt
    omega
  have hdiv (k : Nat) : (v.toNat / 0x10).testBit k = v.getLsbD (4 + k) :=
    (Nat.testBit_div_two_pow (n := 4) v.toNat k).trans (by rw [BitVec.testBit_toNat, Nat.add_comm])
  have hmod (k : Nat) : (v.toNat % 0x10).testBit k = (decide (k < 4) && v.getLsbD k) :=
    Nat.testBit_mod_two_pow v.toNat 4 k
  apply BitVec.eq_of_getLsbD_eq
  intro j hj
  rw [Nat.add_comm, getLsbD_ofNat_join (v.toNat % 0x10) (i := 4) (m := 0x10) rfl hlo hj, BitVec.getLsbD_or,
    BitVec.getLsbD_shiftLeft, BitVec.getLsbD_ushiftRight, hdiv, hmod]
  by_cases h : j < 4
  · simp [h]
  · have hlow : j - 4 < 4 := by omega
    have hhigh : v.getLsbD (4 + j) = false := BitVec.getLsbD_of_ge v _ (by omega)
    simp [h, hj, hlow, hhigh]

theorem shiftLeft_or_shiftRight_four_toNat (v : Byte) :
    (v <<< 4 ||| v >>> 4).toNat = v.toNat / 0x10 + 0x10 * (v.toNat % 0x10) := by
  have := v.isLt
  rw [shiftLeft_or_shiftRight_four, BitVec.toNat_ofNat]
  omega

/-- The exchange of nibbles is its own inverse. -/
theorem swapNibbles_swapNibbles (v : Byte) :
    (v <<< 4 ||| v >>> 4) <<< 4 ||| (v <<< 4 ||| v >>> 4) >>> 4 = v := by
  have := v.isLt
  apply BitVec.eq_of_toNat_eq
  rw [shiftLeft_or_shiftRight_four_toNat (v <<< 4 ||| v >>> 4), shiftLeft_or_shiftRight_four_toNat]
  omega

/-! ## The byte and PSW of every operation (R192, R193) -/

/-- The byte a shift, rotate, INC or DEC gives, on numbers. -/
theorem State.rmwResult_eq (s : State) (op : Rmw) (v : Byte) : s.rmwResult op v = s.rmwByte op v := by
  cases op with
  | asl => exact shiftLeft_one v
  | lsr => exact shiftRight_one v
  | rol => exact withBit_shiftLeft_one v (s.flag .c)
  | ror => exact withBit_shiftRight_one v (s.flag .c)
  | inc => exact byte_add_one v
  | dec => exact byte_sub_one v

/-- The lowest bit of a byte, as a remainder. -/
theorem byte_odd (v : Byte) : v.getLsbD 0 = (v.toNat % 2 == 1) := by
  rw [Bool.eq_iff_iff, getLsbD_iff, pow_zero, Nat.div_one, beq_iff_eq]

/-- The carry a shift or rotate writes is the bit shifted out; INC and DEC keep C, and none writes another flag. -/
theorem State.flag_rmwCarry (s : State) (op : Rmw) (v : Byte) (g : Flag) :
    (s.rmwCarry op v).flag g = if g = .c then s.rmwC op v else s.flag g := by
  cases op with
  | asl | rol => rw [State.rmwCarry, State.flag_setFlag, State.rmwC, byte_sign]
  | lsr | ror => rw [State.rmwCarry, State.flag_setFlag, State.rmwC, byte_odd]
  | inc | dec =>
    rw [State.rmwCarry, State.rmwC]
    split
    case isTrue h => rw [h]
    case isFalse => rfl

/-- PSW after a shift, rotate, INC or DEC, on numbers. -/
theorem State.rmwFlags_psw (s : State) (op : Rmw) (v : Byte) : (s.rmwFlags op v).psw = s.rmwPsw op v := by
  rw [State.rmwFlags, State.setNZ8_psw, State.rmwResult_eq]
  simp [State.pswFrom8, State.pswNZ, State.rmwPsw, State.pswNZC, State.flag_rmwCarry]

/-! ## The instructions -/

/-- Each of the 18 instructions on a byte of memory is the shared operation on it. -/
theorem exec_rmwMemInstr (op : Rmw) (f : RmwForm) (s : State) :
    exec (rmwMemInstr op f) s = .next (s.rmwMem op f.mode) := by
  cases op <;> cases f <;> rfl

/-- Each of the 10 instructions on a register is the shared operation on it. -/
theorem exec_rmwRegForms {i : Instr} {op : Rmw} {r : Reg} (h : (i, op, r) ∈ rmwRegForms) (s : State) :
    exec i s = .next (s.rmwReg op r) := by
  simp only [rmwRegForms, List.mem_cons, Prod.mk.injEq, List.not_mem_nil, or_false] at h
  rcases h with ⟨rfl, rfl, rfl⟩ | ⟨rfl, rfl, rfl⟩ | ⟨rfl, rfl, rfl⟩ | ⟨rfl, rfl, rfl⟩ | ⟨rfl, rfl, rfl⟩ |
    ⟨rfl, rfl, rfl⟩ | ⟨rfl, rfl, rfl⟩ | ⟨rfl, rfl, rfl⟩ | ⟨rfl, rfl, rfl⟩ | ⟨rfl, rfl, rfl⟩ <;> rfl

/-- XCN changes A and PSW. -/
theorem execXcn_eq (s : State) :
    execXcn s = .next { s with a := s.a <<< 4 ||| s.a >>> 4, psw := s.pswFrom8 (s.a <<< 4 ||| s.a >>> 4) } :=
  congrArg Host.Outcome.next (State.setNZ8_eq { s with a := s.a <<< 4 ||| s.a >>> 4 } _)

/-- Settles O31: the shared operation changes PSW, PC, `last_addr` and the byte at its address. -/
theorem shiftsAndStepsOnMemory : Obligations.ShiftsAndStepsOnMemory := by
  intro op f s
  refine ⟨s.rmwMem op f.mode, exec_rmwMemInstr op f s, ?frame, fun k => ?stored⟩
  case frame => rw [State.rmwMem_eq, State.rmwFlags_psw, RmwForm.enter_pc]
  case stored =>
    rw [State.rmwMem_eq, State.rmwResult_eq]
    exact s.peek_memWrite_word (s.ea f.mode) k _

/-- Settles O32: the shared operation changes its register and PSW. -/
theorem shiftsAndStepsOnRegisters : Obligations.ShiftsAndStepsOnRegisters := by
  intro i op r h s
  simp only [exec_rmwRegForms h, State.rmwReg_eq, State.rmwResult_eq, State.rmwFlags_psw]

/-- Settles O33: the two shifts exchange the nibbles as numbers do, and doing so twice changes nothing. -/
theorem xcnSwapsNibbles : Obligations.XcnSwapsNibbles := by
  refine ⟨rfl, fun s r hr => ?once, fun s t u ht hu => ?twice⟩
  case once =>
    rw [hr, ← shiftLeft_or_shiftRight_four]
    exact execXcn_eq s
  case twice =>
    obtain rfl := Host.Outcome.next.inj ((execXcn_eq s).symm.trans ht)
    obtain rfl := Host.Outcome.next.inj ((execXcn_eq _).symm.trans hu)
    exact swapNibbles_swapNibbles s.a

end Sys2Proof.Machine

/-! PROOFS. 16-bit moves and arithmetic, MUL, DIV, DAA and DAS (spec/43_word_muldiv_bcd.md): what each register, flag
and memory write of the family leaves, written on numbers (R223 to R234). -/

namespace Sys2Proof.Machine

/-! ## Words and bytes on numbers -/

/-- The low byte of a number taken modulo 2^16. -/
theorem lowByte_ofNat (n : Nat) : lowByte (BitVec.ofNat 16 n) = BitVec.ofNat 8 n := by
  apply BitVec.eq_of_toNat_eq
  rw [lowByte_eq, BitVec.toNat_ofNat, BitVec.toNat_ofNat, BitVec.toNat_ofNat]
  omega

/-- The high byte of a number taken modulo 2^16. -/
theorem highByte_ofNat (n : Nat) : highByte (BitVec.ofNat 16 n) = BitVec.ofNat 8 (n / 0x100) := by
  apply BitVec.eq_of_toNat_eq
  rw [highByte_eq, BitVec.toNat_ofNat, BitVec.toNat_ofNat, BitVec.toNat_ofNat]
  omega

/-- A word of two bytes is made of those bytes. -/
theorem bytes_wordOf (hi lo : Byte) : lowByte (wordOf hi lo) = lo ∧ highByte (wordOf hi lo) = hi := by
  obtain ⟨hlow, htail⟩ := List.cons.inj (encodeWord_operandWord lo hi)
  exact ⟨hlow, List.head_eq_of_cons_eq htail⟩

/-- A constant added to a byte or word, on numbers. -/
theorem add_ofNat {k : Nat} (w : BitVec k) (n : Nat) : w + BitVec.ofNat k n = BitVec.ofNat k (w.toNat + n) := by
  rw [BitVec.ofNat_add, BitVec.ofNat_toNat, BitVec.setWidth_eq]

/-- A byte or word is not 0, on numbers. -/
theorem bne_zero_eq {k : Nat} (w : BitVec k) : (w != 0) = (w.toNat != 0) := by
  rw [Bool.eq_iff_iff, bne_iff_ne, bne_iff_ne, ne_eq, ne_eq, BitVec.toNat_eq]
  rfl

/-- The low nibble of a byte, on numbers. -/
theorem and_0x0F_toNat (v : Byte) : (v &&& 0x0F).toNat = v.toNat % 0x10 := by
  rw [BitVec.toNat_and]
  exact Nat.and_two_pow_sub_one_eq_mod v.toNat 4

/-! ## The direct-page word (R89, R224 to R230) -/

/-- The operand byte fetched and the word read: PC and `last_addr` change. -/
theorem State.dpWordRead_eq (s : State) (dd : Byte) :
    s.dpWordRead dd = { s with pc := s.pcAfter 1, lastAddr := (s.dp dd).toNat + 1 } := by
  rw [State.pcAfter_one]
  rfl

/-- WriteWord to the direct page stores both bytes: neither address is above 0xFFFF. -/
theorem State.stored2_writeWord_dp (s : State) (dd : Byte) (w : Word) :
    Stored2 s (s.writeWord (s.dp dd).toNat w) (s.dp dd).toNat (lowByte w) (s.highByteAddr (s.dp dd).toNat)
      (highByte w) := by
  intro k
  have hlow : (s.dp dd).toNat ≤ 0xFFFF := by
    have := s.dp_lt dd
    omega
  have hhigh : s.highByteAddr (s.dp dd).toNat ≤ 0xFFFF := by
    have := s.dp_lt dd
    cases hmode : s.params.writeWordMode with
    | split =>
      rw [State.highByteAddr_split hmode]
      omega
    | sameAddress => rwa [State.highByteAddr_sameAddress hmode]
  simp only [State.peek_writeWord, and_iff_left hlow, and_iff_left hhigh]

/-- A write of YA, on numbers (R13). -/
theorem State.setYA_ofNat (s : State) (n : Nat) :
    s.setYA (BitVec.ofNat 16 n) = { s with a := BitVec.ofNat 8 n, y := BitVec.ofNat 8 (n / 0x100) } := by
  rw [State.setYA, lowByte_ofNat, highByte_ofNat]

/-- YA takes the two bytes of a word read from memory. -/
theorem State.setYA_peekWord_eq (s t : State) (addr : Nat) :
    t.setYA (s.peekWord addr) = { t with a := s.peek addr, y := s.peek (addr + 1) } := by
  obtain ⟨hlow, hhigh⟩ := bytes_wordOf (s.peek (addr + 1)) (s.peek addr)
  rw [State.setYA, State.peekWord, hlow, hhigh]

/-- What INCW and DECW do with the number they write back: PSW, PC, `last_addr` and the two bytes (R226, R227). -/
theorem State.rmwWord_ofNat (s : State) (dd : Byte) (n : Nat) :
    s.rmwWord dd (BitVec.ofNat 16 n) = { s with
      psw := s.pswFrom16 (BitVec.ofNat 16 n), pc := s.pcAfter 1, lastAddr := s.highByteAddr (s.dp dd).toNat,
      mem := (s.rmwWord dd (BitVec.ofNat 16 n)).mem } ∧
    Stored2 s (s.rmwWord dd (BitVec.ofNat 16 n)) (s.dp dd).toNat (BitVec.ofNat 8 n)
      (s.highByteAddr (s.dp dd).toNat) (BitVec.ofNat 8 (n / 0x100)) := by
  rw [State.rmwWord_eq, State.setNZ16_psw, State.pcAfter_one, ← lowByte_ofNat, ← highByte_ofNat]
  exact ⟨rfl, s.stored2_writeWord_dp dd _⟩

/-- Settles O39: MOVW reads or writes the two bytes of the word, and INCW and DECW write a number back. -/
theorem wordMoves : Obligations.WordMoves := by
  rintro s dd _ w rfl hw
  obtain rfl : w = (s.dpWord dd).toNat := hw.trans (s.peekWord_toNat _).symm
  refine ⟨?movwYaDp, ⟨s.fetch8.writeWord (s.dp dd).toNat s.ya, rfl, ?frame, ?stored⟩, ?incw, ?decw⟩
  case movwYaDp =>
    calc exec (.movwYaDp dd) s = .next (((s.dpWordRead dd).setYA (s.dpWord dd)).setNZ16 (s.dpWord dd)) := rfl
      _ = _ := by
        rw [State.dpWordRead_eq, State.setNZ16_eq, State.dpWord, State.setYA_peekWord_eq]
        rfl
  case frame =>
    rw [State.pcAfter_one]
    rfl
  case stored =>
    obtain ⟨hlow, hhigh⟩ := bytes_wordOf s.y s.a
    have h := s.fetch8.stored2_writeWord_dp dd s.ya
    rwa [State.ya, hlow, hhigh] at h
  case incw =>
    refine ⟨_, ?_, s.rmwWord_ofNat dd _⟩
    rw [← add_ofNat]
    rfl
  case decw =>
    refine ⟨_, ?_, s.rmwWord_ofNat dd _⟩
    rw [← add_ofNat]
    exact congrArg (fun w => Host.Outcome.next (s.rmwWord dd w)) (BitVec.sub_eq_add_neg _ _)

/-! ## PSW after the flag writes of the 16-bit arithmetic (R228 to R230) -/

/-- C, H and V written, then N and Z from a number taken modulo 2^16: the flag writes of ADDW and SUBW. -/
theorem State.setFlags_chv_setNZ16_eq (s : State) (c h v : Bool) (n : Nat) :
    (((s.setFlag .c c).setFlag .h h).setFlag .v v).setNZ16 (BitVec.ofNat 16 n) =
      { s with psw := s.pswNVHZC (0x8000 ≤ n % 0x10000) v h (n % 0x10000 == 0) c } := by
  rw [State.setNZ16_eq, State.pswFrom16, BitVec.toNat_ofNat]
  refine congrArg (fun p => { s with psw := p }) ?_
  simp [State.pswNZ, State.pswNVHZC, State.flag_setFlag]

/-- C written, then N and Z from a number taken modulo 2^16: the flag writes of CMPW. -/
theorem State.setFlag_c_setNZ16_eq (s : State) (c : Bool) (n : Nat) :
    (s.setFlag .c c).setNZ16 (BitVec.ofNat 16 n) =
      { s with psw := s.pswNZC (0x8000 ≤ n % 0x10000) (n % 0x10000 == 0) c } := by
  rw [State.setNZ16_eq, State.pswFrom16, BitVec.toNat_ofNat]
  refine congrArg (fun p => { s with psw := p }) ?_
  simp [State.pswNZ, State.pswNZC, State.flag_setFlag]

/-- The half carry of ADDW and SUBW on numbers, in both modes (decision D5). -/
theorem halfCarry16_eq (mode : HalfCarry16Mode) (a b : Word) (r : BitVec 17) :
    halfCarry16 mode a b r =
      if mode = .intended then ((a.toNat ^^^ b.toNat ^^^ r.toNat) &&& 0x1000) != 0
      else (a.toNat ^^^ b.toNat ^^^ (r.toNat &&& 0x1000)) != 0 := by
  have hwide (w : Word) : (w.setWidth 17).toNat = w.toNat := BitVec.toNat_setWidth_of_le (by decide)
  cases mode <;> simp only [halfCarry16, bne_zero_eq, BitVec.toNat_and, BitVec.toNat_xor, hwide] <;> rfl

/-- `(n & 0x8000) != 0` is bit 15 of a number. -/
theorem nat_and_0x8000_ne_zero (n : Nat) : (n &&& 0x8000 != 0) = n.testBit 15 := by
  rw [show 0x8000 = 2 ^ 15 from rfl, Nat.and_two_pow]
  cases n.testBit 15 <;> rfl

/-- The overflow test of ADDW and SUBW sees bit 15 only, so it may take the whole result in place of its low 16 bits. -/
theorem overflow16_eq (m a : Word) (r : BitVec 17) :
    ((m &&& (a ^^^ r.setWidth 16) &&& 0x8000) != 0) =
      ((m.toNat &&& (a.toNat ^^^ r.toNat) &&& 0x8000) != 0) := by
  have hbit : (r.toNat % 2 ^ 16).testBit 15 = r.toNat.testBit 15 := Nat.testBit_mod_two_pow r.toNat 16 15
  calc ((m &&& (a ^^^ r.setWidth 16) &&& 0x8000) != 0)
      = ((m.toNat &&& (a.toNat ^^^ r.toNat % 2 ^ 16) &&& 0x8000) != 0) := by
        rw [bne_zero_eq, BitVec.toNat_and, BitVec.toNat_and, BitVec.toNat_xor, BitVec.toNat_setWidth]
        rfl
    _ = ((m.toNat &&& (a.toNat ^^^ r.toNat) &&& 0x8000) != 0) := by
        rw [nat_and_0x8000_ne_zero, nat_and_0x8000_ne_zero, Nat.testBit_and, Nat.testBit_and, Nat.testBit_xor,
          Nat.testBit_xor, hbit]

/-! ## ADDW, SUBW and CMPW (R228 to R230) -/

/-- The sum of two words fits in 17 bits. -/
theorem addwResult_toNat (a b : Word) : (addwResult a b).toNat = a.toNat + b.toNat := by
  have := a.isLt
  have := b.isLt
  rw [addwResult, BitVec.toNat_ofNat]
  omega

/-- `r17`, on numbers. -/
theorem subwResult_toNat (a b : Word) : (subwResult a b).toNat = (((a.toNat : Int) - b.toNat) % 0x20000).toNat :=
  BitVec.toNat_ofInt _

/-- The overflow ADDW writes, on numbers. -/
theorem addwOverflow_eq (a b : Word) :
    addwOverflow a b =
      (((0xFFFF - (a.toNat ^^^ b.toNat)) &&& (a.toNat ^^^ (a.toNat + b.toNat)) &&& 0x8000) != 0) := by
  rw [addwOverflow, overflow16_eq, addwResult_toNat, BitVec.toNat_not, BitVec.toNat_xor]

/-- The overflow SUBW writes, on numbers. -/
theorem subwOverflow_eq (a b : Word) :
    subwOverflow a b =
      (((a.toNat ^^^ b.toNat) &&& (a.toNat ^^^ (subwResult a b).toNat) &&& 0x8000) != 0) := by
  rw [subwOverflow, overflow16_eq, BitVec.toNat_xor]

/-- There is no borrow out of the difference when the subtrahend is not the larger. -/
theorem subwDiff_nonneg (a b : Word) : 0 ≤ subwDiff a b ↔ b.toNat ≤ a.toNat := by
  rw [subwDiff, Int.sub_nonneg, Int.ofNat_le]

/-- The word CMPW takes N and Z from is the low 16 bits of `r17`. -/
theorem ofInt_subwDiff (a b : Word) : BitVec.ofInt 16 (subwDiff a b) = BitVec.ofNat 16 (subwResult a b).toNat := by
  apply BitVec.eq_of_toNat_eq
  rw [BitVec.toNat_ofInt, BitVec.toNat_ofNat, subwResult_toNat, subwDiff]
  omega

/-- The flag writes of ADDW, on numbers. -/
theorem State.addwFlags_eq (s : State) (a b : Word) {r : Nat} (hr : r = a.toNat + b.toNat) :
    s.addwFlags a b = { s with
      psw := s.pswNVHZC (0x8000 ≤ r % 0x10000)
        (((0xFFFF - (a.toNat ^^^ b.toNat)) &&& (a.toNat ^^^ r) &&& 0x8000) != 0)
        (if s.params.halfCarry16 = .intended then ((a.toNat ^^^ b.toNat ^^^ r) &&& 0x1000) != 0
          else (a.toNat ^^^ b.toNat ^^^ (r &&& 0x1000)) != 0)
        (r % 0x10000 == 0) (0xFFFF < r) } := by
  rw [State.addwFlags, ← BitVec.ofNat_toNat, State.setFlags_chv_setNZ16_eq, halfCarry16_eq, addwOverflow_eq,
    addwResult_toNat, hr]

/-- The flag writes of SUBW, on numbers. -/
theorem State.subwFlags_eq (s : State) (a b : Word) {r17 : Nat} (hr : r17 = (subwResult a b).toNat) :
    s.subwFlags a b = { s with
      psw := s.pswNVHZC (0x8000 ≤ r17 % 0x10000)
        (((a.toNat ^^^ b.toNat) &&& (a.toNat ^^^ r17) &&& 0x8000) != 0)
        (if s.params.halfCarry16 = .intended then ((a.toNat ^^^ b.toNat ^^^ r17) &&& 0x1000) != 0
          else (a.toNat ^^^ b.toNat ^^^ (r17 &&& 0x1000)) != 0)
        (r17 % 0x10000 == 0) (b.toNat ≤ a.toNat) } := by
  rw [State.subwFlags, ← BitVec.ofNat_toNat, State.setFlags_chv_setNZ16_eq, halfCarry16_eq, subwOverflow_eq, hr,
    decide_eq_decide.mpr (subwDiff_nonneg a b)]

/-- The flag writes of CMPW, on numbers. -/
theorem State.cmpwFlags_eq (s : State) (a b : Word) {r17 : Nat} (hr : r17 = (subwResult a b).toNat) :
    s.cmpwFlags a b = { s with
      psw := s.pswNZC (0x8000 ≤ r17 % 0x10000) (r17 % 0x10000 == 0) (b.toNat ≤ a.toNat) } := by
  rw [State.cmpwFlags, ofInt_subwDiff, State.setFlag_c_setNZ16_eq, hr, decide_eq_decide.mpr (subwDiff_nonneg a b)]

/-- Settles O40: the sum is exact in 17 bits, and the flags and bytes are those of that number. -/
theorem addwFollowsItsRule : Obligations.AddwFollowsItsRule := by
  refine ⟨fun dd => rfl, fun s dd a b r ha hb hr => ?_⟩
  obtain rfl : a = s.ya.toNat := ha.trans (wordOf_toNat _ _).symm
  obtain rfl : b = (s.dpWord dd).toNat := hb.trans (s.peekWord_toNat _).symm
  calc exec (.addw dd) s
      = .next (((s.dpWordRead dd).addwFlags s.ya (s.dpWord dd)).setYA
          ((addwResult s.ya (s.dpWord dd)).setWidth 16)) := rfl
    _ = _ := by
      rw [← BitVec.ofNat_toNat, addwResult_toNat, ← hr, State.setYA_ofNat, State.addwFlags_eq _ _ _ hr,
        State.dpWordRead_eq]
      rfl

/-- Settles O41: SUBW and CMPW write the flags of one 17-bit difference, SUBW its bytes too. -/
theorem subwAndCmpwFollowTheirRules : Obligations.SubwAndCmpwFollowTheirRules := by
  refine ⟨fun dd => ⟨rfl, rfl⟩, fun s dd a b r17 ha hb hr => ?_⟩
  obtain rfl : a = s.ya.toNat := ha.trans (wordOf_toNat _ _).symm
  obtain rfl : b = (s.dpWord dd).toNat := hb.trans (s.peekWord_toNat _).symm
  rw [← subwResult_toNat] at hr
  constructor
  · calc exec (.subw dd) s
        = .next (((s.dpWordRead dd).subwFlags s.ya (s.dpWord dd)).setYA
            ((subwResult s.ya (s.dpWord dd)).setWidth 16)) := rfl
      _ = _ := by
        rw [← BitVec.ofNat_toNat, ← hr, State.setYA_ofNat, State.subwFlags_eq _ _ _ hr, State.dpWordRead_eq]
        rfl
  · calc exec (.cmpw dd) s = .next ((s.dpWordRead dd).cmpwFlags s.ya (s.dpWord dd)) := rfl
      _ = _ := by
        rw [State.cmpwFlags_eq _ _ _ hr, State.dpWordRead_eq]
        rfl

/-! ## MUL and DIV (R231, R232) -/

/-- Settles O42: Y is the high byte of the product, and N and Z follow it. -/
theorem mulFollowsItsRule : Obligations.MulFollowsItsRule := by
  refine ⟨rfl, fun s p hp => ?_⟩
  subst hp
  calc exec .mul s = .next ((s.setYA (mulResult s.y s.a)).setNZ8 (highByte (mulResult s.y s.a))) := rfl
    _ = _ := by
      rw [mulResult, State.setYA_ofNat, highByte_ofNat, State.setNZ8_eq]
      rfl

/-- H and V written, then N and Z from a byte: the flag writes of DIV, which keep C. -/
theorem State.psw_setFlags_hv_setNZ8 (s : State) (h v : Bool) (r : Byte) :
    (((s.setFlag .h h).setFlag .v v).setNZ8 r).psw = s.pswNVHZC (0x80 ≤ r.toNat) v h (r.toNat == 0) (s.flag .c) := by
  rw [State.setNZ8_psw]
  simp [State.pswFrom8, State.pswNZ, State.pswNVHZC, State.flag_setFlag]

/-- The H that DIV writes, on numbers: it compares low nibbles. -/
theorem divHalfCarry_eq (y x : Byte) : divHalfCarry y x = decide (x.toNat % 0x10 ≤ y.toNat % 0x10) := by
  rw [divHalfCarry, and_0x0F_toNat, and_0x0F_toNat]

/-- The V that DIV writes, on numbers: bit 8 of YA. -/
theorem word_bit8 (w : Word) : w.getLsbD 8 = (w.toNat / 0x100 % 2 == 1) :=
  Nat.testBit_eq_decide_div_mod_eq

/-- A remainder by a byte that is not 0 fits in a byte. -/
theorem remainder_toNat {x : Byte} (hx : x ≠ 0) (n : Nat) : (BitVec.ofNat 8 (n % x.toNat)).toNat = n % x.toNat := by
  have hpos : 0 < x.toNat := Nat.pos_of_ne_zero fun h => hx (BitVec.eq_of_toNat_eq h)
  exact Nat.mod_eq_of_lt ((Nat.mod_lt n hpos).trans x.isLt)

/-- Settles O43: the pair DIV writes is the quotient and the remainder, or DIV_ZERO's where X is 0. -/
theorem divFollowsItsRule : Obligations.DivFollowsItsRule := by
  refine ⟨rfl, fun s ya hya => ?_⟩
  obtain rfl : ya = s.ya.toNat := hya.trans (wordOf_toNat _ _).symm
  refine ⟨(divResult s.params.divZero s.ya s.x).1, (divResult s.params.divZero s.ya s.x).2, ?state, fun hx => ?zero,
    fun hx => ?nonzero⟩
  case state =>
    calc exec .div s = .next s.divYA := rfl
      _ = _ := by rw [State.divYA_eq, State.psw_setFlags_hv_setNZ8, divHalfCarry_eq, word_bit8]
  case zero => rw [divResult, if_pos hx, BitVec.ofNat_toNat, BitVec.setWidth_eq]
  case nonzero =>
    rw [divResult, if_neg hx]
    exact ⟨rfl, remainder_toNat hx _⟩

/-! ## DAA and DAS (R233, R234) -/

/-- A after the first step of DAA, on numbers. -/
theorem daaStep_eq (c : Bool) (a : Byte) :
    daaStep c a = if c = true ∨ 0x99 < a.toNat then BitVec.ofNat 8 (a.toNat + 0x60) else a := by
  rw [show BitVec.ofNat 8 (a.toNat + 0x60) = a + 0x60 from (add_ofNat a 0x60).symm]
  simp only [daaStep, daaHigh, Bool.or_eq_true, decide_eq_true_iff]

/-- The byte DAA leaves, on numbers: the second test is of A as the first step left it. -/
theorem daaResult_eq (c h : Bool) (a : Byte) :
    daaResult c h a = if h = true ∨ 9 < (daaStep c a).toNat % 0x10 then BitVec.ofNat 8 ((daaStep c a).toNat + 0x06)
      else daaStep c a := by
  rw [show BitVec.ofNat 8 ((daaStep c a).toNat + 0x06) = daaStep c a + 0x06 from (add_ofNat _ 0x06).symm]
  simp only [daaResult, lowNibbleAbove9, and_0x0F_toNat, Bool.or_eq_true, decide_eq_true_iff]

/-- A after the first step of DAS, on numbers: 0xA0 is -0x60 modulo 2^8. -/
theorem dasStep_eq (c : Bool) (a : Byte) :
    dasStep c a = if c = false ∨ 0x99 < a.toNat then BitVec.ofNat 8 (a.toNat + 0xA0) else a := by
  rw [← add_ofNat, show a + BitVec.ofNat 8 0xA0 = a - 0x60 from (BitVec.sub_eq_add_neg a 0x60).symm]
  simp only [dasStep, dasHigh, Bool.or_eq_true, Bool.not_eq_true', decide_eq_true_iff]

/-- The byte DAS leaves, on numbers: 0xFA is -0x06 modulo 2^8. -/
theorem dasResult_eq (c h : Bool) (a : Byte) :
    dasResult c h a = if h = false ∨ 9 < (dasStep c a).toNat % 0x10 then BitVec.ofNat 8 ((dasStep c a).toNat + 0xFA)
      else dasStep c a := by
  rw [← add_ofNat, show dasStep c a + BitVec.ofNat 8 0xFA = dasStep c a - 0x06 from
    (BitVec.sub_eq_add_neg (dasStep c a) 0x06).symm]
  simp only [dasResult, lowNibbleAbove9, and_0x0F_toNat, Bool.or_eq_true, Bool.not_eq_true', decide_eq_true_iff]

/-- A byte loaded into A: N and Z follow it (R109). -/
theorem State.loadValue_a_eq (s : State) (r : Byte) :
    s.loadValue .a r = { s with a := r, psw := s.pswFrom8 r } :=
  State.setNZ8_eq { s with a := r } r

/-- C written where the first test holds, then A loaded: the writes of DAA and DAS. -/
theorem State.decimalAdjust_eq (s : State) (high c : Bool) (r : Byte) :
    (if high then s.setFlag .c c else s).loadValue .a r = { s with
      a := r, psw := s.pswNZC (0x80 ≤ r.toNat) (r.toNat == 0) (if high then c else s.flag .c) } := by
  cases high with
  | false => exact s.loadValue_a_eq r
  | true =>
    refine ((s.setFlag .c c).loadValue_a_eq r).trans (congrArg (fun p => { s with a := r, psw := p }) ?_)
    simp [State.pswFrom8, State.pswNZ, State.pswNZC, State.flag_setFlag]

/-- Settles O44: C is written only where the first test holds, and the tests and sums are those of numbers. -/
theorem decimalAdjustments : Obligations.DecimalAdjustments := by
  refine ⟨rfl, rfl, fun s a1 a2 b1 b2 ha1 ha2 hb1 hb2 => ⟨?daa, ?das⟩⟩
  case daa =>
    obtain rfl : a1 = daaStep (s.flag .c) s.a := ha1.trans (daaStep_eq _ _).symm
    obtain rfl : a2 = daaResult (s.flag .c) (s.flag .h) s.a := ha2.trans (daaResult_eq _ _ _).symm
    have hc : (if daaHigh (s.flag .c) s.a then true else s.flag .c) = (s.flag .c || decide (0x99 < s.a.toNat)) := by
      rw [daaHigh]
      cases s.flag .c <;> simp
    rw [← hc]
    exact congrArg Host.Outcome.next (s.decimalAdjust_eq _ true _)
  case das =>
    obtain rfl : b1 = dasStep (s.flag .c) s.a := hb1.trans (dasStep_eq _ _).symm
    obtain rfl : b2 = dasResult (s.flag .c) (s.flag .h) s.a := hb2.trans (dasResult_eq _ _ _).symm
    have hc : (if dasHigh (s.flag .c) s.a then false else s.flag .c) = (s.flag .c && !decide (0x99 < s.a.toNat)) := by
      rw [dasHigh]
      cases s.flag .c <;> simp
    rw [← hc]
    exact congrArg Host.Outcome.next (s.decimalAdjust_eq _ false _)

end Sys2Proof.Machine

/-! PROOFS. The stack (spec/45_call_stack.md): pushes and pops under both stack disciplines, the calls and the software
trap, and the two returns (R252 to R269). -/

namespace Sys2Proof.Machine

/-! ## SP and the slots of the stack, on numbers (R14, R252, R253) -/

theorem byte_sub_two (b : Byte) : b - 1 - 1 = BitVec.ofNat 8 (b.toNat + 0xFE) := by
  rw [byte_sub_one, byte_sub_one, ← add_ofNat, ← add_ofNat, ← add_ofNat, BitVec.add_assoc]
  rfl

theorem byte_sub_three (b : Byte) : b - 1 - 1 - 1 = BitVec.ofNat 8 (b.toNat + 0xFD) := by
  rw [byte_sub_two, byte_sub_one, ← add_ofNat, ← add_ofNat, ← add_ofNat, BitVec.add_assoc]
  rfl

theorem byte_add_two (b : Byte) : b + 1 + 1 = BitVec.ofNat 8 (b.toNat + 2) := by
  rw [← add_ofNat, BitVec.add_assoc]
  rfl

theorem byte_add_three (b : Byte) : b + 1 + 1 + 1 = BitVec.ofNat 8 (b.toNat + 3) := by
  rw [byte_add_two, ← add_ofNat, ← add_ofNat, BitVec.add_assoc]
  rfl

/-- A push goes to page 1 (R14). -/
theorem State.pushSlot_lt (s : State) (k : Nat) : s.pushSlot k < 0x200 := by
  unfold State.pushSlot
  split <;> omega

/-- The slot of a pop is the address of SP after as many increments (R253). -/
theorem State.stackAddr_ofNat (s : State) (k : Nat) : stackAddr (BitVec.ofNat 8 (s.sp.toNat + k)) = s.popSlot k := by
  rw [stackAddr, BitVec.toNat_ofNat]
  rfl

/-- A word of two bytes, as a number (R8). -/
theorem wordOf_eq (hi lo : Byte) : wordOf hi lo = BitVec.ofNat 16 (0x100 * hi.toNat + lo.toNat) := by
  rw [← wordOf_toNat, BitVec.ofNat_toNat, BitVec.setWidth_eq]

/-! ## Pushes (R252, R254) -/

/-- A push changes SP, one byte of memory and `last_addr`. -/
theorem State.push8_spec (s : State) (v : Byte) :
    s.push8 v = { s with
      sp := BitVec.ofNat 8 (s.sp.toNat + 0xFF), lastAddr := s.pushSlot 1, mem := (s.push8 v).mem } ∧
    Stored s (s.push8 v) (s.pushSlot 1) v := by
  refine ⟨?_, s.peek_push8 v⟩
  rw [← byte_sub_one, ← s.push8_lastAddr v]
  apply State.ext <;> simp

/-- Settles O50: each is the push of a register. -/
theorem pushInstructions : Obligations.PushInstructions :=
  fun s => ⟨⟨_, rfl, s.push8_spec s.a⟩, ⟨_, rfl, s.push8_spec s.x⟩, ⟨_, rfl, s.push8_spec s.y⟩,
    _, rfl, s.push8_spec s.psw⟩

/-- The push of a return address changes SP, two bytes of memory and `last_addr`. -/
theorem State.pushPC_spec (s : State) :
    s.pushPC = { s with
      sp := BitVec.ofNat 8 (s.sp.toNat + 0xFE), lastAddr := s.pushSlot 2, mem := s.pushPC.mem } ∧
    PushedPC s s.pushPC s.pc := by
  refine ⟨?_, s.peek_pushPC⟩
  rw [← byte_sub_two, ← s.pushPC_lastAddr]
  apply State.ext <;> simp

/-- Outside page 1 the push of a return address leaves memory as it was. -/
theorem State.peek_pushPC_of_le (s : State) {k : Nat} (h : 0x200 ≤ k) : s.pushPC.peek k = s.peek k := by
  have h1 := s.pushSlot_lt 1
  have h2 := s.pushSlot_lt 2
  rw [State.peek_pushPC, if_neg (by omega), if_neg (by omega)]

/-- Outside page 1 a word reads as before the push of a return address. -/
theorem State.peekWord_pushPC_of_le (s : State) {k : Nat} (h : 0x200 ≤ k) : s.pushPC.peekWord k = s.peekWord k := by
  rw [State.peekWord, State.peekWord, s.peek_pushPC_of_le h, s.peek_pushPC_of_le (Nat.le_succ_of_le h)]

/-! ## Pops (R253, R255) -/

theorem State.pop8Value_eq (s : State) : s.pop8Value = s.peek (s.popSlot 1) := by
  rw [← State.stackAddr_ofNat, ← byte_add_one]
  rfl

/-- The pop of PC changes PC, SP and `last_addr`; its low byte is the first one. -/
theorem State.popPC_eq (s : State) :
    s.popPC = { s with
      pc := BitVec.ofNat 16 (0x100 * (s.peek (s.popSlot 2)).toNat + (s.peek (s.popSlot 1)).toNat)
      sp := BitVec.ofNat 8 (s.sp.toNat + 2), lastAddr := s.popSlot 2 } := by
  rw [← wordOf_eq, ← State.pop8Value_eq, ← State.stackAddr_ofNat, ← byte_add_two]
  rfl

/-- Settles O51: each is the pop of a byte that its register takes. -/
theorem popInstructions : Obligations.PopInstructions := by
  intro s
  rw [← State.pop8Value_eq, ← State.stackAddr_ofNat, ← byte_add_one]
  exact ⟨rfl, rfl, rfl, rfl⟩

/-! ## Calls (R256 to R258) -/

/-- A call loads PC and pushes the PC it stood at, which its operand bytes have been fetched before. -/
theorem State.callTo_spec (s : State) (target : Word) :
    s.callTo target = { s with
      pc := target, sp := BitVec.ofNat 8 (s.sp.toNat + 0xFE), lastAddr := s.pushSlot 2, mem := (s.callTo target).mem } ∧
    PushedPC s (s.callTo target) s.pc := by
  rw [← byte_sub_two]
  exact ⟨s.callTo_eq target, s.peek_pushPC⟩

/-- Settles O52: CALL and PCALL call after their operand bytes, TCALL jumps through its vector after the push. -/
theorem callsPushReturnAddress : Obligations.CallsPushReturnAddress := by
  refine ⟨fun addr s => ?call, fun uu s => ?pcall, fun n s hn => ?tcall⟩
  case call =>
    rw [State.pcAfter_two]
    exact ⟨_, rfl, s.fetch16.callTo_spec addr⟩
  case pcall =>
    have htarget : BitVec.ofNat 16 (0xFF00 + uu.toNat) = 0xFF00 + zext uu := by
      rw [BitVec.ofNat_add, ← zext_toNat, BitVec.ofNat_toNat, BitVec.setWidth_eq]
      rfl
    rw [State.pcAfter_one, htarget]
    exact ⟨_, rfl, s.fetch8.callTo_spec (0xFF00 + zext uu)⟩
  case tcall =>
    have hnext : 0xFFDF - 2 * n = 0xFFDE - 2 * n + 1 := by omega
    have hvector : 0x200 ≤ 0xFFDE - 2 * n := by omega
    obtain ⟨hframe, hpushed⟩ := s.pushPC_spec
    refine ⟨s.pushPC.jumpVector (0xFFDE - 2 * n), rfl, ?_, hpushed⟩
    rw [hnext, ← State.peekWord_eq, ← s.peekWord_pushPC_of_le hvector]
    exact congrArg (fun t => { t with
      pc := s.pushPC.peekWord (0xFFDE - 2 * n), lastAddr := 0xFFDE - 2 * n + 1 }) hframe

/-! ## The software trap (R259, R338) -/

/-- The vector of the trap is outside page 1, so the three pushes before it is read leave it as it was. -/
theorem State.peek_takeTrap_of_le (s : State) {k : Nat} (h : 0x200 ≤ k) : s.takeTrap.peek k = s.peek k := by
  have h3 := s.pushSlot_lt 3
  rw [State.peek_takeTrap, if_neg (by omega), s.peek_pushPC_of_le h]

/-- PC after the trap is the word at the vector. -/
theorem State.takeTrap_pc (s : State) :
    s.takeTrap.pc = BitVec.ofNat 16 (0x100 * (s.peek 0xFFDF).toNat + (s.peek 0xFFDE).toNat) := by
  calc s.takeTrap.pc = s.takeTrap.peekWord 0xFFDE := rfl
    _ = _ := by
      rw [State.peekWord_eq, s.peek_takeTrap_of_le (by decide), s.peek_takeTrap_of_le (by decide)]

/-- The trap sets B and clears I (decision D12). -/
theorem State.takeTrap_psw (s : State) :
    s.takeTrap.psw =
      pswOf (s.flag .n) (s.flag .v) (s.flag .p) true (s.flag .h) false (s.flag .z) (s.flag .c) := by
  apply State.psw_of_flags <;> simp [State.takeTrap, State.flag_setFlag]

/-- Three bytes are pushed. -/
theorem State.takeTrap_sp (s : State) : s.takeTrap.sp = BitVec.ofNat 8 (s.sp.toNat + 0xFD) := by
  rw [← byte_sub_three]
  simp [State.takeTrap]

/-- Settles O53: a field at a time, and the memory its three pushes leave. -/
theorem brkTakesTheTrap : Obligations.BrkTakesTheTrap := by
  refine ⟨rfl, fun s => ⟨s.takeTrap, rfl, ?frame, fun k => ?memory⟩⟩
  case frame =>
    rw [← s.takeTrap_pc, ← s.takeTrap_psw, ← s.takeTrap_sp]
    apply State.ext <;> simp [State.takeTrap, brkVector]
  case memory => rw [State.peek_takeTrap, State.peek_pushPC]

/-! ## Returns (R260, R261, R339) -/

/-- The return from the trap, on numbers: PSW is popped before PC. -/
theorem State.returnFromTrap_eq_popSlots (s : State) :
    s.returnFromTrap = { s with
      psw := s.peek (s.popSlot 1)
      pc := BitVec.ofNat 16 (0x100 * (s.peek (s.popSlot 3)).toNat + (s.peek (s.popSlot 2)).toNat)
      sp := BitVec.ofNat 8 (s.sp.toNat + 3), lastAddr := s.popSlot 3 } := by
  rw [State.returnFromTrap_eq, byte_add_three, byte_add_two, byte_add_one, State.stackAddr_ofNat,
    State.stackAddr_ofNat, State.stackAddr_ofNat, wordOf_eq]

/-- Settles O54: RET is the pop of PC, RETI the return from the trap. -/
theorem returnsPopPc : Obligations.ReturnsPopPc :=
  ⟨rfl, rfl, fun s =>
    ⟨congrArg Host.Outcome.next s.popPC_eq, congrArg Host.Outcome.next s.returnFromTrap_eq_popSlots⟩⟩

end Sys2Proof.Machine

/-! PROOFS. Bit instructions (spec/46_bit_ops.md): the byte a bit write leaves, written on numbers, and what the
instructions on direct-page bits, on a byte under the mask A and on mem.bit operands leave (R270 to R281). -/

namespace Sys2Proof.Machine

/-! ## One bit of a byte, on numbers -/

/-- The union of two bytes, on numbers. -/
theorem byte_or_eq (v m : Byte) : v ||| m = BitVec.ofNat 8 (v.toNat ||| m.toNat) := by
  rw [← BitVec.toNat_or, BitVec.ofNat_toNat, BitVec.setWidth_eq]

/-- The bits of a byte outside a mask, on numbers. -/
theorem byte_and_not_eq (v m : Byte) : v &&& ~~~m = BitVec.ofNat 8 (v.toNat &&& (0xFF - m.toNat)) := by
  have hnot : (~~~m).toNat = 0xFF - m.toNat := BitVec.toNat_not
  rw [← hnot, ← BitVec.toNat_and, BitVec.ofNat_toNat, BitVec.setWidth_eq]

/-- The byte whose one set bit is `bit`, as a number. -/
theorem one_shiftLeft_toNat {bit : Nat} (hbit : bit < 8) : ((1 : Byte) <<< bit).toNat = 2 ^ bit := by
  have hlt : 2 ^ bit < 2 ^ 8 := Nat.pow_lt_pow_right (by decide) hbit
  calc ((1 : Byte) <<< bit).toNat = 1 <<< bit % 2 ^ 8 := BitVec.toNat_shiftLeft
    _ = 2 ^ bit := by rw [Nat.one_shiftLeft, Nat.mod_eq_of_lt hlt]

/-- A bit set, on numbers (R270). -/
theorem withBit_true {bit : Nat} (hbit : bit < 8) (v : Byte) :
    withBit v bit true = BitVec.ofNat 8 (v.toNat ||| 2 ^ bit) := by
  rw [withBit, if_pos rfl, byte_or_eq, one_shiftLeft_toNat hbit]

/-- A bit cleared, on numbers (R271). -/
theorem withBit_false {bit : Nat} (hbit : bit < 8) (v : Byte) :
    withBit v bit false = BitVec.ofNat 8 (v.toNat &&& (0xFF - 2 ^ bit)) := by
  rw [withBit, if_neg Bool.false_ne_true, byte_and_not_eq, one_shiftLeft_toNat hbit]

/-- A bit written, on numbers (R281). -/
theorem withBit_eq {bit : Nat} (hbit : bit < 8) (v : Byte) (c : Bool) :
    withBit v bit c = BitVec.ofNat 8 (if c then v.toNat ||| 2 ^ bit else v.toNat &&& (0xFF - 2 ^ bit)) := by
  cases c with
  | true => exact withBit_true hbit v
  | false => exact withBit_false hbit v

/-- A bit complemented, on numbers (R280). -/
theorem withBit_not_getLsbD (v : Byte) (bit : Nat) :
    withBit v bit (!v.getLsbD bit) = BitVec.ofNat 8 (v.toNat ^^^ 2 ^ bit) := by
  apply BitVec.eq_of_getLsbD_eq
  intro j hj
  rw [withBit_bit _ _ hj, BitVec.getLsbD_ofNat, decide_eq_true hj, Bool.true_and, Nat.testBit_xor,
    BitVec.testBit_toNat, Nat.testBit_two_pow]
  by_cases h : j = bit
  · simp [h]
  · simp [h, Ne.symm h]

/-! ## Direct-page bits and the byte under the mask A (R270 to R273) -/

/-- SET1 and CLR1 change PC, `last_addr` and the byte at `DP(d)`. -/
theorem State.dpBitWrite_spec (s : State) (bit : Nat) (dd : Byte) (v : Bool) :
    s.dpBitWrite bit dd v = { s with
      pc := s.pcAfter 1, lastAddr := (s.dp dd).toNat, mem := (s.dpBitWrite bit dd v).mem } ∧
    Stored s (s.dpBitWrite bit dd v) (s.dp dd).toNat (withBit (s.peek (s.dp dd).toNat) bit v) := by
  rw [State.dpBitWrite_eq, State.pcAfter_one]
  exact ⟨rfl, fun k => s.peek_memWrite_word (s.dp dd) k _⟩

/-- TSET1 and TCLR1 change PSW, PC, `last_addr` and the byte of their operand. -/
theorem State.testWrite_spec (s : State) (addr : Word) (w : Byte) :
    s.testWrite addr w = { s with
      psw := s.pswFrom8 (s.a - s.peek addr.toNat), pc := s.pcAfter 2, lastAddr := addr.toNat,
      mem := (s.testWrite addr w).mem } ∧
    Stored s (s.testWrite addr w) addr.toNat w := by
  rw [State.testWrite_eq, State.setNZ8_psw, State.pcAfter_two]
  exact ⟨rfl, fun k => s.peek_memWrite_word addr k w⟩

/-- Settles O56: SET1 and CLR1 are bit writes of a direct-page byte, TSET1 and TCLR1 write its union with A or its bits
outside A. -/
theorem bitsOfMemoryBytes : Obligations.BitsOfMemoryBytes := by
  refine ⟨fun bit dd s hbit => ⟨?set1, ?clr1⟩, ?_⟩
  case set1 =>
    rw [← withBit_true hbit]
    exact ⟨_, rfl, s.dpBitWrite_spec bit dd true⟩
  case clr1 =>
    rw [← withBit_false hbit]
    exact ⟨_, rfl, s.dpBitWrite_spec bit dd false⟩
  rintro addr s _ rfl
  refine ⟨?tset1, ?tclr1⟩
  case tset1 =>
    rw [← byte_or_eq]
    exact ⟨_, rfl, s.testWrite_spec addr _⟩
  case tclr1 =>
    rw [← byte_and_not_eq]
    exact ⟨_, rfl, s.testWrite_spec addr _⟩

/-! ## mem.bit operands (R104, R274 to R281) -/

/-- The address of a mem.bit operand is its 13-bit field. -/
theorem memBitEa_toNat (addr : BitVec 13) : (memBitEa addr).toNat = addr.toNat :=
  BitVec.toNat_setWidth_of_le (by decide)

theorem State.memBitByte_eq (s : State) (addr : BitVec 13) : s.memBitByte addr = s.peek addr.toNat := by
  rw [State.memBitByte, memBitEa_toNat]

theorem State.memBit_eq_getLsbD (s : State) (bit : Nat) (addr : BitVec 13) :
    s.memBit bit addr = (s.peek addr.toNat).getLsbD bit := by
  rw [State.memBit, State.memBitByte_eq]

/-- The bit of a mem.bit operand, as a number. -/
theorem State.memBit_eq (s : State) (bit : Nat) (addr : BitVec 13) :
    s.memBit bit addr = ((s.peek addr.toNat).toNat / 2 ^ bit % 2 == 1) := by
  rw [State.memBit_eq_getLsbD, Bool.eq_iff_iff, getLsbD_iff, beq_iff_eq]

/-- C written, every other flag as it was. -/
theorem State.setFlag_c_psw (s : State) (v : Bool) :
    (s.setFlag .c v).psw = s.pswNZC (s.flag .n) (s.flag .z) v := by
  apply State.psw_of_flags <;> simp [State.flag_setFlag]

/-- What an instruction that writes C from a mem.bit operand leaves: C, PC and `last_addr` change. -/
theorem State.memBitToC_spec (s : State) (addr : BitVec 13) (v : Bool) :
    s.memBitToC addr v = { s with
      psw := s.pswNZC (s.flag .n) (s.flag .z) v, pc := s.pcAfter 2, lastAddr := addr.toNat } := by
  rw [State.memBitToC_eq, State.setFlag_c_psw, State.pcAfter_two, memBitEa_toNat]

/-- What an instruction that writes a mem.bit operand leaves: PC, `last_addr` and the operand's byte change. -/
theorem State.memBitWrite_spec (s : State) (bit : Nat) (addr : BitVec 13) (v : Bool) :
    s.memBitWrite bit addr v = { s with
      pc := s.pcAfter 2, lastAddr := addr.toNat, mem := (s.memBitWrite bit addr v).mem } ∧
    Stored s (s.memBitWrite bit addr v) addr.toNat (withBit (s.peek addr.toNat) bit v) := by
  rw [State.memBitWrite_eq, State.memBitByte_eq, State.pcAfter_two, ← memBitEa_toNat]
  exact ⟨rfl, fun k => s.peek_memWrite_word (memBitEa addr) k _⟩

/-- Settles O57: each of the six writes its combination of the bit with C to C. -/
theorem carryBitInstructions : Obligations.CarryBitInstructions := by
  rintro bit addr s _ _ - rfl rfl i c' hmem
  have hexec : exec i s = .next (s.memBitToC addr c') := by
    simp only [← State.memBit_eq, List.mem_cons, Prod.mk.injEq, List.not_mem_nil, or_false] at hmem
    rcases hmem with ⟨rfl, rfl⟩ | ⟨rfl, rfl⟩ | ⟨rfl, rfl⟩ | ⟨rfl, rfl⟩ | ⟨rfl, rfl⟩ | ⟨rfl, rfl⟩ <;> rfl
  rw [hexec, State.memBitToC_spec]

/-- Settles O58: NOT1 writes the complement of the bit it reads, MOV1 writes C. -/
theorem memoryBitInstructions : Obligations.MemoryBitInstructions := by
  rintro bit addr s _ hbit rfl
  refine ⟨?not1, ?mov1⟩
  case not1 =>
    rw [← withBit_not_getLsbD, ← State.memBit_eq_getLsbD]
    exact ⟨_, rfl, s.memBitWrite_spec bit addr _⟩
  case mov1 =>
    rw [← withBit_eq hbit]
    exact ⟨_, rfl, s.memBitWrite_spec bit addr (s.flag .c)⟩

end Sys2Proof.Machine

/-! PROOFS. Flag instructions, NOP, SLEEP and STOP (spec/47_flag_misc.md): what one flag write makes of a PSW written flag
by flag (R282 to R292). -/

namespace Sys2Proof.Machine

/-- A flag write replaces that flag in a PSW written flag by flag and changes nothing else. -/
theorem State.setFlag_of_psw {s : State} {n v p b h i z c : Bool} (hpsw : s.psw = pswOf n v p b h i z c) (f : Flag)
    (w : Bool) : s.setFlag f w = { s with
      psw := pswOf (if f = .n then w else n) (if f = .v then w else v) (if f = .p then w else p)
        (if f = .b then w else b) (if f = .h then w else h) (if f = .i then w else i) (if f = .z then w else z)
        (if f = .c then w else c) } := by
  obtain ⟨rfl, rfl, rfl, rfl, rfl, rfl, rfl, rfl⟩ := State.flags_of_psw hpsw
  refine congrArg (fun q => { s with psw := q }) (State.psw_of_flags (s := s.setFlag f w) ?_ ?_ ?_ ?_ ?_ ?_ ?_ ?_) <;>
    simp only [State.flag_setFlag, eq_comm]

/-- Settles O59: each flag instruction is one flag write, of the value its rule gives; NOP, SLEEP and STOP are the
identity. -/
theorem flagInstructions : Obligations.FlagInstructions := by
  intro s n v p b h i z c hpsw
  obtain ⟨_, _, _, _, _, _, _, hc⟩ := State.flags_of_psw hpsw
  have write (f : Flag) (w : Bool) := congrArg (.next : State → Result) (State.setFlag_of_psw hpsw f w)
  have notc : exec .notc s = .next (s.setFlag .c !c) := by
    rw [← hc]
    rfl
  exact ⟨write .c false, write .c true, notc.trans (write .c !c), write .v false, write .p false, write .p true,
    write .i true, write .i false, rfl, rfl, rfl⟩

end Sys2Proof.Machine

/-! PROOFS. The moves (spec/48_mov.md): every load, store and register move is one shared operation on its operands
(R293 to R333). -/

namespace Sys2Proof.Machine

/-! ## The shared operations -/

/-- A register loaded with a value: N and Z follow it (R109). -/
theorem State.loadValue_eq (s : State) (r : Reg) (v : Byte) :
    s.loadValue r v = { s.setReg r v with psw := s.pswFrom8 v } := by
  have hpsw : ((s.setReg r v).setNZ8 v).psw = s.pswFrom8 v :=
    (State.setNZ8_psw_congr (s.setReg_psw r v) v).trans (s.setNZ8_psw v)
  rw [← hpsw]
  rfl

/-- A store changes PC, `last_addr` and the byte at its destination, which takes the register. -/
theorem StoreForm.store_spec (f : StoreForm) (s : State) :
    s.store f.reg f.mode = { s with
      pc := s.pcAfter f.bytes, lastAddr := (s.ea f.mode).toNat, mem := (s.store f.reg f.mode).mem } ∧
    Stored s (s.store f.reg f.mode) (s.ea f.mode).toNat (s.reg f.reg) := by
  rw [State.store_eq, StoreForm.enter_pc]
  exact ⟨rfl, fun k => s.peek_memWrite_word (s.ea f.mode) k _⟩

/-- A move to memory changes PC, `last_addr` and the byte at its destination, which takes the source operand. -/
theorem MemForm.moveMem_spec (f : MemForm) (s : State) :
    s.moveMem f.source f.dest = { s with
      pc := s.pcAfter f.bytes, lastAddr := (s.ea f.dest).toNat, mem := (s.moveMem f.source f.dest).mem } ∧
    Stored s (s.moveMem f.source f.dest) (s.ea f.dest).toNat (s.sourceValue f.source) := by
  rw [State.moveMem_eq, MemForm.reads_pc]
  exact ⟨rfl, fun k => s.peek_memWrite_word (s.ea f.dest) k _⟩

/-! ## The instructions -/

/-- Each of the 17 loads is the shared load of its source. -/
theorem exec_loadForm (f : LoadForm) (s : State) : exec f.instr s = .next (s.load f.reg f.source) := by
  cases f with
  | a o => cases o <;> rfl
  | _ => rfl

/-- Each of the 14 stores is the shared store to its destination. -/
theorem exec_storeForm (f : StoreForm) (s : State) : exec f.instr s = .next (s.store f.reg f.mode) := by
  cases f <;> rfl

/-- Settles O34: the shared load changes its register, PSW, PC and `last_addr`. -/
theorem loadsSetRegisterAndNZ : Obligations.LoadsSetRegisterAndNZ := by
  rintro f s _ rfl
  rw [exec_loadForm, State.load_eq, State.setNZ8_psw, LoadForm.sourceRead_pc]

/-- Settles O35: the shared store changes PC, `last_addr` and the byte at its address. -/
theorem storesWriteOneByte : Obligations.StoresWriteOneByte :=
  fun f s => ⟨_, exec_storeForm f s, f.store_spec s⟩

/-- Settles O37: five load a register with another's value; `MOV SP, X` is the write of SP alone. -/
theorem registerMoves : Obligations.RegisterMoves := by
  intro s
  have load (r : Reg) (v : Byte) := congrArg (.next : State → Result) (s.loadValue_eq r v)
  exact ⟨load .a s.x, load .a s.y, load .x s.a, load .y s.a, load .x s.sp, rfl⟩

/-- Settles O38: both are the shared move to memory. -/
theorem directPageMoves : Obligations.DirectPageMoves :=
  ⟨fun ss dd s => ⟨_, rfl, (MemForm.dpDp ss dd).moveMem_spec s⟩,
    fun ii dd s => ⟨_, rfl, (MemForm.dpImm ii dd).moveMem_spec s⟩⟩

end Sys2Proof.Machine

/-! PROOFS. What one instruction leaves for the next (spec/70_reset_and_hazards.md): DAA after ADC (R358), and pops and
returns after pushes and calls (R354). -/

namespace Sys2Proof.Machine

/-! ## DAA after ADC8 (R358)

`d1` and `d0` are the sums of the tens and of the ones of two decimal numbers, the carry-in among the ones; ADC8 leaves
`16 * d1 + d0` in C and A, and the carry out of the ones in H. -/

section
variable {c h : Bool} {a : Byte} {d1 d0 : Nat} (htens : d1 ≤ 18) (hones : d0 ≤ 19)
  (ha : a.toNat = (0x10 * d1 + d0) % 0x100) (hc : c = decide (0xFF < 0x10 * d1 + d0)) (hh : h = true ↔ 0xF < d0)
include htens hones ha hc

/-- The first test of DAA is one comparison of the full sum: below 0x134 a sum above 0xFF leaves at most 0x33 in A. -/
theorem daaHigh_of_digitSums : daaHigh c a = decide (0x99 < 0x10 * d1 + d0) := by
  rw [daaHigh, hc, ha, ← Bool.decide_or, decide_eq_decide]
  omega

/-- A after the first step of DAA: the sum, its tens corrected. -/
theorem daaStep_toNat_of_digitSums :
    (daaStep c a).toNat = (0x10 * d1 + d0 + if 0x99 < 0x10 * d1 + d0 then 0x60 else 0) % 0x100 := by
  rw [daaStep, daaHigh_of_digitSums htens hones ha hc]
  by_cases hhigh : 0x99 < 0x10 * d1 + d0
  · simp [hhigh, ha]
  · simp [hhigh, ha]

include hh

/-- A after DAA: the ones are corrected where they carry, or would without the first step. -/
theorem daaResult_toNat_of_digitSums :
    (daaResult c h a).toNat =
      (0x10 * d1 + d0 + (if 0x99 < 0x10 * d1 + d0 then 0x60 else 0) + if 9 < d0 then 0x06 else 0) % 0x100 := by
  have hstep := daaStep_toNat_of_digitSums htens hones ha hc
  have htest : (h = true ∨ 9 < (daaStep c a).toNat % 0x10) ↔ 9 < d0 := by
    rw [hh, hstep]
    split <;> omega
  rw [daaResult_eq]
  simp only [htest]
  by_cases hlow : 9 < d0
  · simp [hlow, hstep]
  · simp [hlow, hstep]

/-- A and C after DAA are the decimal digits of the sum. -/
theorem daa_of_digitSums :
    100 * (daaHigh c a).toNat + 10 * ((daaResult c h a).toNat / 0x10) + (daaResult c h a).toNat % 0x10 =
        10 * d1 + d0 ∧
      (daaResult c h a).toNat % 0x10 < 10 ∧ (daaResult c h a).toNat / 0x10 < 10 := by
  rw [daaResult_toNat_of_digitSums htens hones ha hc hh, daaHigh_of_digitSums htens hones ha hc, Bool.toNat,
    Bool.cond_decide]
  split <;> split <;> omega

end

/-- DAA leaves C set where its first test holds, which C set before makes hold (R233). -/
theorem exec_daa_spec (s : State) : ∃ t, exec .daa s = .next t ∧ t.a = daaResult (s.flag .c) (s.flag .h) s.a ∧
    t.flag .c = daaHigh (s.flag .c) s.a := by
  refine ⟨_, congrArg Host.Outcome.next (s.decimalAdjust_eq _ true _), rfl, ?_⟩
  obtain ⟨-, -, -, -, -, -, -, hc⟩ := State.flags_of_psw (s := { s with psw := s.pswNZC _ _ _ }) rfl
  refine hc.trans ?_
  rw [daaHigh]
  cases s.flag .c <;> simp

/-- ADC8 on two bytes of two digits each leaves the sums of their digits in A, C and H (R111, R20). -/
theorem State.adc_digitSums (s : State) {b : Byte} {x1 x0 y1 y0 : Nat} (hx0 : x0 < 0x10) (hy0 : y0 < 0x10)
    (hx : s.a.toNat = 0x10 * x1 + x0) (hy : b.toNat = 0x10 * y1 + y0) {S : Nat}
    (hS : S = 0x10 * (x1 + y1) + (x0 + y0 + (s.flag .c).toNat)) :
    (s.aluA .adc (.imm b)).a.toNat = S % 0x100 ∧ (s.aluA .adc (.imm b)).flag .c = decide (0xFF < S) ∧
      ((s.aluA .adc (.imm b)).flag .h = true ↔ 0xF < x0 + y0 + (s.flag .c).toNat) := by
  have hflag (g : Flag) : (s.aluA .adc (.imm b)).flag g = (s.aluFlags .adc s.a b).flag g := by
    rw [State.aluA_eq]
    rfl
  have hsum : S = s.a.toNat + b.toNat + (s.flag .c).toNat := by omega
  obtain ⟨ha, -, hc, -⟩ := adcHelperFollowsItsRule s s.a b S hsum
  obtain ⟨hh, -⟩ := halfCarryIsNibbleCarry s s.a b
  refine ⟨by rwa [State.aluA_eq], (hflag .c).trans hc, ?_⟩
  rw [hflag, hh]
  omega

/-- Settles O45: ADC8 leaves the sums of the digits, and DAA makes decimal digits of them. -/
theorem decimalAdditionIsCorrect : Obligations.DecimalAdditionIsCorrect := by
  intro s x1 x0 y1 y0 hx1 hx0 hy1 hy0 hsa
  have digits {n1 n0 : Nat} (h1 : n1 < 10) (h0 : n0 < 10) :
      (BitVec.ofNat 8 (0x10 * n1 + n0)).toNat = 0x10 * n1 + n0 := Nat.mod_eq_of_lt (by omega)
  have hcarry := (s.flag .c).toNat_le
  obtain ⟨ha, hc, hh⟩ := s.adc_digitSums (by omega) (by omega) (hsa ▸ digits hx1 hx0) (digits hy1 hy0) rfl
  obtain ⟨u, hu, hua, huc⟩ := exec_daa_spec (s.aluA .adc (.imm (BitVec.ofNat 8 (0x10 * y1 + y0))))
  have hsum := daa_of_digitSums (by omega) (by omega) ha hc hh
  rw [← hua, ← huc] at hsum
  exact ⟨_, u, rfl, hu, by omega⟩

/-! ## Pops after pushes (R354) -/

/-- The slots of up to a page of pushes are distinct. -/
theorem State.pushSlot_inj (s : State) {i j : Nat} (hi : i < 0x100) (hj : j < 0x100) :
    s.pushSlot i = s.pushSlot j ↔ i = j := by
  have := s.sp.isLt
  unfold State.pushSlot
  split <;> omega

section
variable {s t : State} {n : Nat} (hsp : t.sp = BitVec.ofNat 8 (s.sp.toNat + (0x100 - n)))
include hsp

/-- After `n` pushes under `chip` the pops read the bytes pushed, the last one first. -/
theorem State.popSlot_of_chip (hd : s.params.stackDiscipline = .chip) {k : Nat} (hk : k ≤ n) (hn : n ≤ 0x100) :
    t.popSlot k = s.pushSlot (n + 1 - k) := by
  rw [State.popSlot, hsp, BitVec.toNat_ofNat]
  simp only [State.pushSlot, hd]
  omega

/-- After `n` pushes under `document` the pops leave out the last byte pushed, and the last pop reads the byte at SP
before the pushes. -/
theorem State.popSlot_of_document (hd : s.params.stackDiscipline = .document) {k : Nat} (hk : k ≤ n)
    (hn : n ≤ 0x100) : t.popSlot k = s.pushSlot (n - k) := by
  rw [State.popSlot, hsp, BitVec.toNat_ofNat]
  simp only [State.pushSlot, hd]
  omega

end

/-- Under `document` the slot before that of the first push is SP. -/
theorem State.pushSlot_zero_of_document {s : State} (hd : s.params.stackDiscipline = .document) :
    s.pushSlot 0 = 0x100 + s.sp.toNat := by
  have := s.sp.isLt
  simp only [State.pushSlot, hd]
  omega

/-! ## PUSH and POP (R262 to R269) -/

theorem exec_push (r : StackReg) (s : State) : exec r.push s = .next (s.push8 (s.stackReg r)) := by
  cases r <;> rfl

/-- A POP gives its register the byte above SP, and changes no memory. -/
theorem exec_pop_spec (r : StackReg) (s : State) : ∃ t, exec r.pop s = .next t ∧ t.sp = s.sp + 1 ∧
    (∀ k, t.peek k = s.peek k) ∧ t.stackReg r = s.peek (s.popSlot 1) := by
  obtain ⟨ha, hx, hy, hpsw⟩ := popInstructions s
  rw [byte_add_one]
  cases r with
  | a => exact ⟨_, ha, rfl, fun _ => rfl, rfl⟩
  | x => exact ⟨_, hx, rfl, fun _ => rfl, rfl⟩
  | y => exact ⟨_, hy, rfl, fun _ => rfl, rfl⟩
  | psw => exact ⟨_, hpsw, rfl, fun _ => rfl, rfl⟩

theorem State.push8_sp_ofNat (s : State) (v : Byte) : (s.push8 v).sp = BitVec.ofNat 8 (s.sp.toNat + (0x100 - 1)) :=
  (s.push8_sp v).trans (byte_sub_one s.sp)

/-- The byte a pop reads after a push. -/
theorem State.peek_popSlot_push8 (s : State) (v : Byte) :
    (s.push8 v).peek ((s.push8 v).popSlot 1) =
      if s.params.stackDiscipline = .chip then v else s.peek (0x100 + s.sp.toNat) := by
  have hsp := s.push8_sp_ofNat v
  cases hd : s.params.stackDiscipline with
  | chip => simp [State.popSlot_of_chip hsp hd, State.peek_push8]
  | document =>
    rw [← State.pushSlot_zero_of_document hd]
    simp [State.popSlot_of_document hsp hd, State.peek_push8, State.pushSlot_inj]

/-! ## Calls and RET, BRK and RETI (R256 to R261) -/

theorem State.firstPushed_of_chip {s : State} (hd : s.params.stackDiscipline = .chip) (ret : Word) :
    s.firstPushed ret = highByte ret := by
  rw [highByte_eq]
  simp only [State.firstPushed, hd]

theorem State.secondPushed_of_chip {s : State} (hd : s.params.stackDiscipline = .chip) (ret : Word) :
    s.secondPushed ret = lowByte ret := by
  rw [lowByte_eq]
  simp only [State.secondPushed, hd]

theorem State.firstPushed_of_document {s : State} (hd : s.params.stackDiscipline = .document) (ret : Word) :
    s.firstPushed ret = lowByte ret := by
  rw [lowByte_eq]
  simp only [State.firstPushed, hd]

theorem State.secondPushed_of_document {s : State} (hd : s.params.stackDiscipline = .document) (ret : Word) :
    s.secondPushed ret = highByte ret := by
  rw [highByte_eq]
  simp only [State.secondPushed, hd]

theorem State.popPC_pc_toNat (s : State) :
    s.popPC.pc.toNat = 0x100 * (s.peek (s.popSlot 2)).toNat + (s.peek (s.popSlot 1)).toNat := by
  rw [State.popPC_eq, ← wordOf_eq, wordOf_toNat]

/-- PC popped after a return address was pushed, with SP as the push left it and its bytes, and the one before them,
still in their slots. -/
theorem State.popPC_pc_of_pushedPC {s p t : State} {ret : Word} (hp : PushedPC s p ret)
    (hsp : t.sp = BitVec.ofNat 8 (s.sp.toNat + (0x100 - 2)))
    (hkept : ∀ k ≤ 2, t.peek (s.pushSlot k) = p.peek (s.pushSlot k)) :
    t.popPC.pc.toNat =
      if s.params.stackDiscipline = .chip then ret.toNat
      else 0x100 * (s.peek (0x100 + s.sp.toNat)).toNat + ret.toNat % 0x100 := by
  have hbyte (k : Nat) (hk : k ≤ 2) := (hkept k hk).trans (hp (s.pushSlot k))
  rw [State.popPC_pc_toNat]
  cases hd : s.params.stackDiscipline with
  | chip =>
    have h1 : t.peek (t.popSlot 1) = lowByte ret := by
      simp [State.popSlot_of_chip hsp hd, hbyte, State.secondPushed_of_chip hd]
    have h2 : t.peek (t.popSlot 2) = highByte ret := by
      simp [State.popSlot_of_chip hsp hd, hbyte, State.pushSlot_inj, State.firstPushed_of_chip hd]
    rw [h1, h2, ← wordOf_toNat, wordOf_highByte_lowByte, if_pos rfl]
  | document =>
    have h1 : t.peek (t.popSlot 1) = lowByte ret := by
      simp [State.popSlot_of_document hsp hd, hbyte, State.pushSlot_inj, State.firstPushed_of_document hd]
    have h2 : t.peek (t.popSlot 2) = s.peek (s.pushSlot 0) := by
      simp [State.popSlot_of_document hsp hd, hbyte, State.pushSlot_inj]
    rw [h1, h2, lowByte_eq, BitVec.toNat_ofNat, State.pushSlot_zero_of_document hd]
    rfl

/-- A call takes two bytes of stack and pushes the PC after its operand bytes, whatever its target. -/
theorem exec_callForm (f : CallForm) (s : State) :
    ∃ t, exec f.instr s = .next t ∧ t.sp = s.sp - 1 - 1 ∧ PushedPC s t (s.pcAfter f.bytes) := by
  cases f with
  | call addr =>
    rw [CallForm.bytes, State.pcAfter_two]
    exact ⟨_, rfl, s.fetch16.pushPC_sp, s.fetch16.peek_pushPC⟩
  | pcall uu =>
    rw [CallForm.bytes, State.pcAfter_one]
    exact ⟨_, rfl, s.fetch8.pushPC_sp, s.fetch8.peek_pushPC⟩
  | tcall n =>
    rw [CallForm.bytes, State.pcAfter_zero]
    exact ⟨_, rfl, s.pushPC_sp, s.peek_pushPC⟩

/-- The return from the trap changes no memory (R261). -/
theorem State.returnFromTrap_peek (s : State) (k : Nat) : s.returnFromTrap.peek k = s.peek k := by
  rw [State.returnFromTrap_eq]
  rfl

/-- The PSW that RETI pops after BRK. -/
theorem State.returnFromTrap_takeTrap_psw (s : State) :
    s.takeTrap.returnFromTrap.psw =
      if s.params.stackDiscipline = .chip then s.psw else BitVec.ofNat 8 (s.pc.toNat / 0x100) := by
  rw [State.returnFromTrap_eq_popSlots]
  cases hd : s.params.stackDiscipline with
  | chip => simp [State.popSlot_of_chip (n := 3) s.takeTrap_sp hd, State.peek_takeTrap]
  | document =>
    simp [State.popSlot_of_document (n := 3) s.takeTrap_sp hd, State.peek_takeTrap, State.pushSlot_inj,
      State.peek_pushPC, State.secondPushed_of_document hd, highByte_eq]

/-- The PC that RETI pops after BRK: RETI's pop of PSW leaves SP where BRK's push of PC left it. -/
theorem State.returnFromTrap_takeTrap_pc (s : State) :
    s.takeTrap.returnFromTrap.pc.toNat =
      if s.params.stackDiscipline = .chip then s.pc.toNat
      else 0x100 * (s.peek (0x100 + s.sp.toNat)).toNat + s.pc.toNat % 0x100 := by
  refine State.popPC_pc_of_pushedPC (t := { s.takeTrap.pop8 with psw := s.takeTrap.pop8Value }) s.peek_pushPC ?sp
    fun k hk => ?kept
  case sp =>
    rw [← byte_sub_two]
    simp [State.takeTrap]
  case kept =>
    have hne : s.pushSlot k ≠ s.pushSlot 3 := by
      rw [ne_eq, State.pushSlot_inj] <;> omega
    exact (s.peek_takeTrap _).trans (if_neg hne)

/-- Settles O55: memory after the pushes is that of each instruction's own rule, which no pop changes; SP comes back as
the sum of as many increments as decrements. -/
theorem stackRoundTrips : Obligations.StackRoundTrips := by
  refine fun s => ⟨fun r r' => ?pop, fun f => ?ret, s.takeTrap, s.takeTrap.returnFromTrap, rfl, rfl, ?sp, ?mem,
    s.returnFromTrap_takeTrap_psw, s.returnFromTrap_takeTrap_pc⟩
  case pop =>
    obtain ⟨u, hu, hsp, hmem, hreg⟩ := exec_pop_spec r' (s.push8 (s.stackReg r))
    exact ⟨_, u, exec_push r s, hu, by simp [hsp], fun k => (hmem k).trans (s.peek_push8 _ k),
      hreg.trans (s.peek_popSlot_push8 _)⟩
  case ret =>
    obtain ⟨t, ht, hsp, hpushed⟩ := exec_callForm f s
    refine ⟨t, t.popPC, ht, rfl, by simp [hsp], fun k => (t.popPC_peek k).trans (hpushed k), ?_⟩
    exact State.popPC_pc_of_pushedPC hpushed (hsp.trans (byte_sub_two s.sp)) fun k _ => rfl
  case sp => simp [State.returnFromTrap, State.takeTrap]
  case mem =>
    intro k
    rw [State.returnFromTrap_peek, State.peek_takeTrap, State.peek_pushPC]

end Sys2Proof.Machine
